-- ==== Sys2Proof/Word.lean ====
section
/-!
DEFINITION. The word types of the ring and of the tables (12_formats.md: cells are 16-bit, table items and
payload words are unsigned 32-bit numbers).
-/
namespace Sys2Proof

/-- One byte on the ring. -/
abbrev Byte := BitVec 8

/-- A 16-bit field: a cell value, a record index, an Ethernet type. -/
abbrev Half := BitVec 16

/-- A service payload word or a table item: an unsigned 32-bit number (12_formats.md). -/
abbrev Word := BitVec 32

end Sys2Proof
end

