-- ==== Sys2Proof/Syntax.lean ====
section
/-!
DEFINITION. The commands the part takes: one constructor for each row of spec/opcode_table.json, with the
operands its rules give it. `time` is the local time of the event in µs (R15, R16; assumption 7).
-/
namespace Sys2Proof

/-- The two ring ports (01 section 1.1). -/
inductive Port where
  | ringIn
  | ringOut
deriving DecidableEq, Repr

/-- An Ethernet frame as the Line Port sees it: whether its check sequence holds (R3), its type field (R4)
and its payload, first byte first (R179). Assumption 11. -/
structure EthFrame where
  fcsOk     : Bool
  etherType : Half
  payload   : List Byte
deriving DecidableEq, Repr

/-- The fields of a service record that a request kind may use (11 section 11.2, Table 12.2). -/
structure Request where
  table   : Byte
  option  : Byte
  index   : Half
  count   : Byte
  payload : List Word
deriving DecidableEq, Repr

/-- The operations and events of spec/opcode_table.json, in the table's order. -/
inductive Instr where
  -- resets and load (R173, R177, R178)
  | powerOn
  | localReset (cut : Bool)
  | localResetRelease
  | lineResetTakesEffect
  | loadEnd
  -- ring ports (R1 to R14)
  | portLinkUp (port : Port)
  | portLinkDown (port : Port) (cut : Bool)
  | frameArrival (port : Port) (time : Nat) (frame : EthFrame)
  -- Cycle Supervisor timers (R23, R24)
  | warnExpiry (time : Nat)
  | lossExpiry (time : Nat)
  -- stage 1 (R31 to R33)
  | speedStage
  | speedHoldRunOut
  -- stage 2 (R43 to R66)
  | dryerStep (time : Nat) (permit : Bool)
  | permitTimerReached (time : Nat)
  | settleTimerReached (time : Nat)
  | runConfirmReached (time : Nat)
  | holdDelayReached (time : Nat)
  | holdLimitReached (time : Nat)
  -- stage 3 (R67 to R89)
  | zoneStage (time : Nat)
  | zoneSensorHoldRunOut (zone : Fin 6) (time : Nat)
  -- stage 4 (R90 to R98)
  | exhaustStage (time : Nat)
  | lelHoldRunOut (time : Nat)
  -- stages 5, 6 and 7 (R99 to R145, R39, R40)
  | trackStage
  | chillStage
  | chillSensorHoldRunOut
  | publication
  -- break lines and purge (R146 to R160)
  | breakLineLevelChange (line : Fin 4) (high : Bool) (time : Nat)
  | breakLineLevelTaken (line : Fin 4) (time : Nat)
  | purgeExpiry (time : Nat)
  -- service requests (R161 to R177)
  | read (r : Request)
  | write (r : Request)
  | commit (r : Request)
  | discard (r : Request)
  | enterConfig (r : Request)
  | leaveConfig (r : Request)
  | store (r : Request)
  | storeCompletion (written : Bool)
  | clearLatched (r : Request)
  | clearCauses (r : Request)
  | clearCounters (r : Request)
  | tripReset (r : Request)
  | testTrip (r : Request) (time : Nat)
  | lineReset (r : Request)
deriving DecidableEq, Repr

end Sys2Proof
end

