-- ==== Sys2Proof/Config.lean ====
section
/-!
DEFINITION. What each part fixes for itself, and the free values: constants without a body, so that nothing in
Lean can evaluate them and a statement holds for every value of them.
-/
namespace Sys2Proof.Config

/-- The 48-bit serial number, fixed in each part (R166). Assumption 3. -/
opaque serialNumber : BitVec 48

/-- One less than the silicon revision, "a number from 1 fixed in each part" (R166). Assumption 3. -/
opaque revisionFromZero : Fin 4294967295

/-- The silicon revision of IDENTITY, a number from 1 (R166). -/
def siliconRevision : Word := BitVec.ofNat 32 (revisionFromZero.val + 1)

/-- FREE VALUE. The entry index a REFUSED CHECK reports where the table's chapter gives none: table id, check
number and the word (in Table 12.5 order) at which the check failed give the 32-bit number. DESIGN CHOICE,
safe: the spec states no index for NODE, for LIMITS but for chill supply max (R135), and for entry 0 of DOSE_WINDOWS.
Assumption 1. -/
opaque unstatedEntryIndex (table check item : Nat) : Word

/-- FREE VALUE. Which of several break lines that qualify at one capture is taken first; the argument counts
the choices made. DESIGN CHOICE, safe: "Either may be taken first" (R148). Assumption 2. -/
opaque lineTakenFirst (choice : Nat) : Fin 4

end Sys2Proof.Config
end

