-- ==== Sys2Proof/Machine/Arith.lean ====
section
/-!
DEFINITION. The arithmetic of 00_scope.md section 6.2 and the byte order of 12_formats.md.
-/
namespace Sys2Proof.Machine

/-- Division rounded toward zero (00_scope.md 6.2). -/
def trunc (n d : Int) : Int := n.tdiv d

/-- `clamp(x, a, b)` of 00_scope.md 6.2: a if x < a, b if x > b, and x otherwise. -/
def clamp (x a b : Int) : Int := if x < a then a else if b < x then b else x

/-- A list with entry `i` for each `i < n`. -/
def tabulate {α : Type} (n : Nat) (f : Nat → α) : List α := (List.range n).map f

/-- The signed reading of a 16-bit cell value (12_formats.md: two's complement). -/
def signedCell (v : Half) : Int := v.toInt

/-- The 16 bits of a signed cell value. -/
def cellBits (v : Int) : Half := BitVec.ofInt 16 v

/-- Most significant byte first (12_formats.md): the number a byte string spells. -/
def bytesToNat : List Byte → Nat := List.foldl (fun acc b => acc * 256 + b.toNat) 0

/-- Most significant byte first: the `n` bytes of a number. -/
def natToBytes : Nat → Nat → List Byte
  | 0, _ => []
  | n + 1, v => BitVec.ofNat 8 (v / 256 ^ n) :: natToBytes n v

/-- The bytes of a payload word. -/
def wordBytes (w : Word) : List Byte := natToBytes 4 w.toNat

/-- Payload words from bytes, four at a time; a tail of fewer than four bytes is not a word. -/
def bytesToWords : Nat → List Byte → List Word
  | 0, _ => []
  | n + 1, bs => BitVec.ofNat 32 (bytesToNat (bs.take 4)) :: bytesToWords n (bs.drop 4)

/-- `new` laid over `old` from position `i` on; positions past the end of `old` are dropped. -/
def overlay {α : Type} (old : List α) (i : Nat) (new : List α) : List α :=
  (old.take i ++ new ++ old.drop (i + new.length)).take old.length

/-- The first answer in a list of tests, in order. -/
def firstSome {α : Type} : List (Option α) → Option α
  | [] => none
  | some a :: _ => some a
  | none :: rest => firstSome rest

end Sys2Proof.Machine
end

