-- ==== Sys2Proof/Machine/Tables.lean ====
section
/-!
DEFINITION. The tables of the part: catalogue (R164, Table 11.3), layouts (Table 12.5), the two copies (R165),
the named items, and the built-in defaults (R173).
-/
namespace Sys2Proof.Machine

/-- The sixteen tables of Table 11.3. -/
inductive TableId where
  | node | cellMap | geometry | limits | inputLines | zoneTuning | chillTuning
  | zoneCurves | exhaustCurve | chillCurves | doseWindows
  | report
  | status | track | counters | identity
deriving DecidableEq, Repr

/-- The four classes of Table 11.3. -/
inductive TableClass where
  | commissioning | recipe | immediate | readOnly
deriving DecidableEq, Repr

/-- The id by which service records name a table (Table 11.3). -/
def TableId.code : TableId → Nat
  | .node => 1 | .cellMap => 2 | .geometry => 3 | .limits => 4 | .inputLines => 5
  | .zoneTuning => 6 | .chillTuning => 7
  | .zoneCurves => 10 | .exhaustCurve => 11 | .chillCurves => 12 | .doseWindows => 13
  | .report => 20
  | .status => 30 | .track => 31 | .counters => 32 | .identity => 33

/-- The table an id names, if Table 11.3 lists it. -/
def TableId.ofCode : Nat → Option TableId
  | 1 => some .node | 2 => some .cellMap | 3 => some .geometry | 4 => some .limits
  | 5 => some .inputLines | 6 => some .zoneTuning | 7 => some .chillTuning
  | 10 => some .zoneCurves | 11 => some .exhaustCurve | 12 => some .chillCurves
  | 13 => some .doseWindows
  | 20 => some .report
  | 30 => some .status | 31 => some .track | 32 => some .counters | 33 => some .identity
  | _ => none

def TableId.cls : TableId → TableClass
  | .node | .cellMap | .geometry | .limits | .inputLines | .zoneTuning | .chillTuning => .commissioning
  | .zoneCurves | .exhaustCurve | .chillCurves | .doseWindows => .recipe
  | .report => .immediate
  | .status | .track | .counters | .identity => .readOnly

/-- Number of entries (Table 12.5). -/
def TableId.entries : TableId → Nat
  | .node => 1 | .cellMap => 64 | .geometry => 25 | .limits => 73 | .inputLines => 4
  | .zoneTuning => 6 | .chillTuning => 10
  | .zoneCurves => 295 | .exhaustCurve => 18 | .chillCurves => 141 | .doseWindows => 5
  | .report => 1 | .status => 21 | .track => 128 | .counters => 16 | .identity => 1

/-- Words of one entry (Table 12.5). -/
def TableId.entryWords : TableId → Nat
  | .node => 8 | .inputLines => 3 | .zoneTuning => 5 | .chillTuning => 2 | .doseWindows => 5
  | .track => 4 | .identity => 6
  | .cellMap | .geometry | .limits | .zoneCurves | .exhaustCurve | .chillCurves
  | .report | .status | .counters => 1

/-- The seven commissioning tables, each as its words in entry order (Table 12.5). -/
structure Commissioning where
  node        : List Word
  cellMap     : List Word
  geometry    : List Word
  limits      : List Word
  inputLines  : List Word
  zoneTuning  : List Word
  chillTuning : List Word
deriving DecidableEq, Repr

/-- The four recipe tables, each as its words in entry order (Table 12.5). -/
structure Recipe where
  zoneCurves   : List Word
  exhaustCurve : List Word
  chillCurves  : List Word
  doseWindows  : List Word
deriving DecidableEq, Repr

/-- One copy (active or shadow) of every commissioning and recipe table (R165). -/
structure Tables where
  comm   : Commissioning
  recipe : Recipe
deriving DecidableEq, Repr

/-- The words of a commissioning or recipe table in one copy; the other tables hold no copy (R165). -/
def Tables.words (t : Tables) : TableId → List Word
  | .node => t.comm.node
  | .cellMap => t.comm.cellMap
  | .geometry => t.comm.geometry
  | .limits => t.comm.limits
  | .inputLines => t.comm.inputLines
  | .zoneTuning => t.comm.zoneTuning
  | .chillTuning => t.comm.chillTuning
  | .zoneCurves => t.recipe.zoneCurves
  | .exhaustCurve => t.recipe.exhaustCurve
  | .chillCurves => t.recipe.chillCurves
  | .doseWindows => t.recipe.doseWindows
  | .report | .status | .track | .counters | .identity => []

/-- One table of a copy replaced; a table that holds no copy changes nothing. -/
def Tables.setWords (t : Tables) (id : TableId) (ws : List Word) : Tables :=
  match id with
  | .node => { t with comm := { t.comm with node := ws } }
  | .cellMap => { t with comm := { t.comm with cellMap := ws } }
  | .geometry => { t with comm := { t.comm with geometry := ws } }
  | .limits => { t with comm := { t.comm with limits := ws } }
  | .inputLines => { t with comm := { t.comm with inputLines := ws } }
  | .zoneTuning => { t with comm := { t.comm with zoneTuning := ws } }
  | .chillTuning => { t with comm := { t.comm with chillTuning := ws } }
  | .zoneCurves => { t with recipe := { t.recipe with zoneCurves := ws } }
  | .exhaustCurve => { t with recipe := { t.recipe with exhaustCurve := ws } }
  | .chillCurves => { t with recipe := { t.recipe with chillCurves := ws } }
  | .doseWindows => { t with recipe := { t.recipe with doseWindows := ws } }
  | .report | .status | .track | .counters | .identity => t

/-- A table item as a number (12_formats.md: an unsigned 32-bit number); an item past the table's end is 0. -/
def item (ws : List Word) (i : Nat) : Nat := (ws.getD i 0).toNat

/-! ### NODE (Table 2.2, Table 12.5) -/

def Commissioning.station (c : Commissioning) : Nat := item c.node 0
/-- The cycle period P in µs. -/
def Commissioning.period (c : Commissioning) : Nat := item c.node 1
/-- trunc(P × early / 100) µs (R15). -/
def Commissioning.earlyLimit (c : Commissioning) : Nat := c.period * item c.node 2 / 100
/-- trunc(P × late / 100) µs (R15). -/
def Commissioning.lateLimit (c : Commissioning) : Nat := c.period * item c.node 3 / 100
def Commissioning.warnTime (c : Commissioning) : Nat := item c.node 4 * 1000
def Commissioning.lossTime (c : Commissioning) : Nat := item c.node 5 * 1000
def Commissioning.speedHold (c : Commissioning) : Nat := item c.node 6 * 1000
def Commissioning.sensorHold (c : Commissioning) : Nat := item c.node 7 * 1000

/-! ### CELL_MAP (R12, Table 12.3, Table 12.5) -/

/-- Channel code of entry `i`; 0 is UNUSED. -/
def Commissioning.mapChannel (c : Commissioning) (i : Nat) : Nat := item c.cellMap i % 65536
/-- Cell index of entry `i`. -/
def Commissioning.mapCell (c : Commissioning) (i : Nat) : Nat := item c.cellMap i / 65536
/-- The cell to which a channel is mapped, if an entry names it. -/
def Commissioning.cellOf (c : Commissioning) (channel : Nat) : Option Nat :=
  firstSome (tabulate 64 fun i => if c.mapChannel i = channel then some (c.mapCell i) else none)

/-! ### GEOMETRY (Table 7.3, Table 12.5) -/

def Commissioning.zoneCount (c : Commissioning) : Nat := item c.geometry 0
def Commissioning.rollCount (c : Commissioning) : Nat := item c.geometry 1
def Commissioning.exitPosition (c : Commissioning) : Nat := item c.geometry 2
/-- The chill exit position C. -/
def Commissioning.chillExit (c : Commissioning) : Nat := item c.geometry 3
/-- The segment length L. -/
def Commissioning.segmentLength (c : Commissioning) : Nat := item c.geometry 4
def Commissioning.zoneStart (c : Commissioning) (z : Nat) : Nat := item c.geometry (5 + z)
def Commissioning.zoneEnd (c : Commissioning) (z : Nat) : Nat := item c.geometry (11 + z)
def Commissioning.rollContact (c : Commissioning) (r : Nat) : Nat := item c.geometry (17 + r)
/-- The end of the last active zone (R112). -/
def Commissioning.dryerEnd (c : Commissioning) : Nat := c.zoneEnd (c.zoneCount - 1)
/-- A zone is active when its index is below the zone count (R68). -/
def Commissioning.zoneActive (c : Commissioning) (z : Nat) : Bool := z < c.zoneCount
/-- A roll is active when its index is below the roll count (08 section 8.1). -/
def Commissioning.rollActive (c : Commissioning) (r : Nat) : Bool := r < c.rollCount
/-- The indices of the active zones, ascending. -/
def Commissioning.activeZones (c : Commissioning) : List Nat := (List.range 6).filter (c.zoneActive ·)
/-- The indices of the active rolls, ascending. -/
def Commissioning.activeRolls (c : Commissioning) : List Nat := (List.range 8).filter (c.rollActive ·)

/-! ### LIMITS (Tables 4.6, 5.8, 6.3, 8.5, 12.5), times in µs (R65, R97, R160) -/

def Commissioning.vmax (c : Commissioning) : Nat := item c.limits 0
def Commissioning.creep (c : Commissioning) : Nat := item c.limits 1
def Commissioning.runThreshold (c : Commissioning) : Nat := item c.limits 2
/-- The lead fraction f in sixteenths. -/
def Commissioning.lead (c : Commissioning) : Nat := item c.limits 3
/-- The dose reference T_ref. -/
def Commissioning.doseReference (c : Commissioning) : Nat := item c.limits 4
def Commissioning.coolLimit (c : Commissioning) : Nat := item c.limits 5
def Commissioning.exhaustMin (c : Commissioning) : Nat := item c.limits 6
def Commissioning.standbyExhaust (c : Commissioning) : Nat := item c.limits 7
def Commissioning.lelAlarm (c : Commissioning) : Nat := item c.limits 8
def Commissioning.lelTrip (c : Commissioning) : Nat := item c.limits 9
/-- The LEL gain Kl. -/
def Commissioning.lelGain (c : Commissioning) : Nat := item c.limits 10
def Commissioning.lelHold (c : Commissioning) : Nat := item c.limits 11 * 100000
def Commissioning.purgeTime (c : Commissioning) : Nat := item c.limits 12 * 1000000
def Commissioning.permitTimeout (c : Commissioning) : Nat := item c.limits 13 * 1000000
def Commissioning.settle (c : Commissioning) : Nat := item c.limits 14 * 100000
def Commissioning.runConfirm (c : Commissioning) : Nat := item c.limits 15 * 100000
def Commissioning.holdDelay (c : Commissioning) : Nat := item c.limits 16 * 1000000
def Commissioning.holdLimit (c : Commissioning) : Nat := item c.limits 17 * 60000000
def Commissioning.chillSupplyMax (c : Commissioning) : Nat := item c.limits 18
/-- Item `k` of zone `z` in LIMITS (Table 12.5: from 19 + 9z). -/
def Commissioning.zoneItem (c : Commissioning) (z k : Nat) : Nat := item c.limits (19 + 9 * z + k)
def Commissioning.maxAir (c : Commissioning) (z : Nat) : Nat := c.zoneItem z 0
def Commissioning.tripMargin (c : Commissioning) (z : Nat) : Nat := c.zoneItem z 1
def Commissioning.maxFire (c : Commissioning) (z : Nat) : Nat := c.zoneItem z 2
def Commissioning.standbyAir (c : Commissioning) (z : Nat) : Nat := c.zoneItem z 3
def Commissioning.holdAir (c : Commissioning) (z : Nat) : Nat := c.zoneItem z 4
def Commissioning.standbyFan (c : Commissioning) (z : Nat) : Nat := c.zoneItem z 5
def Commissioning.purgeFan (c : Commissioning) (z : Nat) : Nat := c.zoneItem z 6
def Commissioning.coolFan (c : Commissioning) (z : Nat) : Nat := c.zoneItem z 7
def Commissioning.fanMin (c : Commissioning) (z : Nat) : Nat := c.zoneItem z 8

/-! ### INPUT_LINES (Table 10.4, codes of Table 12.3) -/

/-- The six modes of a break line (Table 10.3). -/
inductive LineMode where
  | unused | rising | falling | both | high | low
deriving DecidableEq, Repr

/-- The two actions of a break line (R153). -/
inductive LineAction where
  | trip | notice
deriving DecidableEq, Repr

/-- Mode codes of Table 12.3; a code outside it never reaches an active copy (R181) and acts as UNUSED
(assumption 29). -/
def LineMode.ofCode : Nat → LineMode
  | 1 => .rising | 2 => .falling | 3 => .both | 4 => .high | 5 => .low | _ => .unused

/-- Action codes of Table 12.3: 0 TRIP, 1 NOTICE (assumption 29 for any other). -/
def LineAction.ofCode : Nat → LineAction
  | 1 => .notice | _ => .trip

def Commissioning.lineMode (c : Commissioning) (k : Nat) : LineMode := .ofCode (item c.inputLines (3 * k))
def Commissioning.lineAction (c : Commissioning) (k : Nat) : LineAction := .ofCode (item c.inputLines (3 * k + 1))
/-- The filter time in µs. -/
def Commissioning.filterTime (c : Commissioning) (k : Nat) : Nat := item c.inputLines (3 * k + 2) * 1000

/-! ### ZONE_TUNING (Table 5.7) and CHILL_TUNING (Table 8.5) -/

def Commissioning.kp (c : Commissioning) (z : Nat) : Nat := item c.zoneTuning (5 * z)
def Commissioning.ki (c : Commissioning) (z : Nat) : Nat := item c.zoneTuning (5 * z + 1)
def Commissioning.band (c : Commissioning) (z : Nat) : Nat := item c.zoneTuning (5 * z + 2)
def Commissioning.slewUp (c : Commissioning) (z : Nat) : Nat := item c.zoneTuning (5 * z + 3)
def Commissioning.slewDown (c : Commissioning) (z : Nat) : Nat := item c.zoneTuning (5 * z + 4)

def Commissioning.chillKp (c : Commissioning) : Nat := item c.chillTuning 0
def Commissioning.chillKi (c : Commissioning) : Nat := item c.chillTuning 1
def Commissioning.trimLimit (c : Commissioning) : Nat := item c.chillTuning 2
def Commissioning.idleValve (c : Commissioning) : Nat := item c.chillTuning 3
def Commissioning.valveMin (c : Commissioning) (r : Nat) : Nat := item c.chillTuning (4 + 2 * r)
def Commissioning.holdValve (c : Commissioning) (r : Nat) : Nat := item c.chillTuning (5 + 2 * r)

/-! ### Recipe tables (Tables 5.9, 8.4, 9.2, 12.5) -/

/-- A breakpoint of a curve with one output: input speed and value (R34). -/
abbrev Breakpoint := Nat × Int

def Recipe.zoneTag (r : Recipe) : Nat := item r.zoneCurves 0
def Recipe.zonePoints (r : Recipe) (z : Nat) : Nat := item r.zoneCurves (1 + z)
/-- Field `k` (0 speed, 1 air, 2 fan, 3 fire) of breakpoint `i` of zone `z`. -/
def Recipe.zoneField (r : Recipe) (z i k : Nat) : Nat := item r.zoneCurves (7 + 48 * z + 4 * i + k)
/-- Zone `z`'s curve for the output in field `k`. -/
def Recipe.zoneCurve (r : Recipe) (z k : Nat) : List Breakpoint :=
  tabulate (min 12 (r.zonePoints z)) fun i => (r.zoneField z i 0, (r.zoneField z i k : Int))

def Recipe.exhaustTag (r : Recipe) : Nat := item r.exhaustCurve 0
def Recipe.exhaustPoints (r : Recipe) : Nat := item r.exhaustCurve 1
def Recipe.damperCurve (r : Recipe) : List Breakpoint :=
  tabulate (min 8 r.exhaustPoints) fun i => (item r.exhaustCurve (2 + 2 * i), (item r.exhaustCurve (3 + 2 * i) : Int))

def Recipe.chillTag (r : Recipe) : Nat := item r.chillCurves 0
def Recipe.chillTarget (r : Recipe) : Nat := item r.chillCurves 1
/-- X_nom (Table 8.4). -/
def Recipe.nominalExit (r : Recipe) : Nat := item r.chillCurves 2
/-- Kff (Table 8.4). -/
def Recipe.feedGain (r : Recipe) : Nat := item r.chillCurves 3
/-- D (Table 8.4). -/
def Recipe.lookLead (r : Recipe) : Nat := item r.chillCurves 4
def Recipe.rollPoints (r : Recipe) (roll : Nat) : Nat := item r.chillCurves (5 + roll)
def Recipe.rollCurve (r : Recipe) (roll : Nat) : List Breakpoint :=
  tabulate (min 8 (r.rollPoints roll)) fun i =>
    (item r.chillCurves (13 + 16 * roll + 2 * i), (item r.chillCurves (14 + 16 * roll + 2 * i) : Int))

def Recipe.doseTag (r : Recipe) : Nat := item r.doseWindows 0
def Recipe.doseMin (r : Recipe) (cls : Nat) : Nat := item r.doseWindows (5 + 5 * cls)
def Recipe.doseMax (r : Recipe) (cls : Nat) : Nat := item r.doseWindows (6 + 5 * cls)
def Recipe.exitLow (r : Recipe) (cls : Nat) : Nat := item r.doseWindows (7 + 5 * cls)
def Recipe.exitHigh (r : Recipe) (cls : Nat) : Nat := item r.doseWindows (8 + 5 * cls)
def Recipe.chillExitMax (r : Recipe) (cls : Nat) : Nat := item r.doseWindows (9 + 5 * cls)

/-- The active recipe is complete (R61). -/
def Tables.recipeComplete (t : Tables) : Bool :=
  t.comm.activeZones.all (fun z => 1 ≤ t.recipe.zonePoints z)
    && decide (1 ≤ t.recipe.exhaustPoints)
    && t.comm.activeRolls.all (fun r => 1 ≤ t.recipe.rollPoints r)
    && t.recipe.doseTag ≠ 0

/-! ### Built-in defaults (R173) and empty recipes (R165) -/

/-- The built-in defaults of each table's chapter (R173). -/
def Commissioning.defaults : Commissioning where
  node := [0, 2000, 50, 150, 20, 50, 200, 500]
  cellMap := List.replicate 64 0
  geometry := [0, 1, 0, 0, 100] ++ List.replicate 20 0
  limits := [1000, 50, 50, 0, 0, 300, 0, 0, 10, 20, 0, 2, 30, 10, 0, 1, 1, 0, 50]
    ++ (List.replicate 6 [(500 : Word), 0, 0, 0, 0, 0, 0, 0, 0]).flatten
  inputLines := List.replicate 12 0
  zoneTuning := (List.replicate 6 [(0 : Word), 0, 1, 1, 1]).flatten
  chillTuning := List.replicate 20 0

/-- Every recipe table with tag 0 and every field 0 (R165). -/
def Recipe.blank : Recipe where
  zoneCurves := List.replicate 295 0
  exhaustCurve := List.replicate 18 0
  chillCurves := List.replicate 141 0
  doseWindows := List.replicate 25 0

/-- The words every table's copy must have (Table 12.5). -/
def Tables.sized (t : Tables) : Bool :=
  [TableId.node, .cellMap, .geometry, .limits, .inputLines, .zoneTuning, .chillTuning,
    .zoneCurves, .exhaustCurve, .chillCurves, .doseWindows].all
    fun id => (t.words id).length = id.entries * id.entryWords

end Sys2Proof.Machine
end

