-- ==== Sys2Proof/Machine/State.lean ====
section
/-!
DEFINITION. The state of the part, block by block (00_scope.md Table 0.1), as plain data, and its value right
after a power-on reset. Each structure names the rule and table that give its items.
-/
namespace Sys2Proof.Machine

/-! ### Names of states, causes, reasons and flags (Table 12.3) -/

/-- Node state (R161). -/
inductive NodeState where
  | loading | config | operate
deriving DecidableEq, Repr

/-- Dryer state (R43). -/
inductive DryerState where
  | cold | preheat | ready | run | hold | purge | cooldown
deriving DecidableEq, Repr

/-- Held mode request (R44). -/
inductive ModeRequest where
  | off | heat | produce
deriving DecidableEq, Repr

/-- Zone state (R70). -/
inductive ZoneState where
  | off | blocked | firing | limited | holding | fault
deriving DecidableEq, Repr

/-- Chill stand state (R124). -/
inductive StandState where
  | idle | still | tracking
deriving DecidableEq, Repr

/-- Trip causes (R146, Table 10.2). -/
inductive Cause where
  | breakLine (line : Fin 4)
  | breakCell | lel | overtemp | link | test | restart
deriving DecidableEq, Repr

/-- The bit number of a cause in the cause set (Table 12.3). -/
def Cause.bit : Cause → Nat
  | .breakLine k => k.val
  | .breakCell => 4
  | .lel => 5
  | .overtemp => 6
  | .link => 7
  | .test => 8
  | .restart => 9

/-- Waste reasons (Table 9.1). -/
inductive WasteReason where
  | start | splice | zone | underdose | overdose | exitTemp | chillHot | unmeasured | break_ | config
deriving DecidableEq, Repr

/-- GATE's verdict (09 section 9.4). -/
inductive GateVerdict where
  | none | good | waste
deriving DecidableEq, Repr

/-- The sixteen latched condition flags (Table 11.4). -/
inductive Flag where
  | linkWarn | cycleIrregular | overrun | speedInvalid | modeInvalid | zoneFault | overtemp | lelAlarm
  | permitLost | permitTimeout | recipeMissing | trip | notice | chillFault | storeFail | storeInvalid
deriving DecidableEq, Repr

/-- Reset causes (R178). -/
inductive ResetCause where
  | powerOn | localPin | line
deriving DecidableEq, Repr

/-- The bit of a reset cause in the set of reset cause flags (Table 12.3). -/
def ResetCause.mask : ResetCause → BitVec 3
  | .powerOn => 1
  | .localPin => 2
  | .line => 4

/-- The result of the last store (R171). -/
inductive StoreResult where
  | none | ok | failed
deriving DecidableEq, Repr

/-- The stages of the cycle computation (Table 3.1). -/
inductive Stage where
  | speed | dryer | zones | exhaust | track | chill | report
deriving DecidableEq, Repr

/-! ### Line Port (01) and the output set (R9, R11) -/

/-- DRYER_STATUS (R39, Table 12.4). -/
structure DryerStatus where
  dryer    : DryerState
  node     : NodeState
  latch    : Bool
  complete : Bool
deriving DecidableEq, Repr

/-- GATE (09 section 9.4, Table 12.4). -/
structure Gate where
  verdict : GateVerdict
  count   : Nat
  reason  : Option WasteReason
deriving DecidableEq, Repr

/-- The 24 output values (Table 1.4), FIRE, FAN, EXHAUST and CHILL_VALVE in 0.01 %. -/
structure OutputSet where
  fire    : List Int
  fan     : List Int
  exhaust : Int
  valve   : List Int
  status  : DryerStatus
  gate    : Gate
  alert   : BitVec 16
deriving DecidableEq, Repr

/-- The output set after every kind of reset (Table 1.2). -/
def OutputSet.reset : OutputSet where
  fire := List.replicate 6 0
  fan := List.replicate 6 0
  exhaust := 0
  valve := List.replicate 8 0
  status := ⟨.cold, .loading, true, false⟩
  gate := ⟨.none, 0, none⟩
  alert := 0

/-- The Line Port's own state (R1, R11, R14). -/
structure LinePort where
  inUp      : Bool
  outUp     : Bool
  readSide  : OutputSet
  fcsFailed : BitVec 32
  malformed : BitVec 32
deriving DecidableEq, Repr

/-! ### Cycle Supervisor (R15, Table 2.1) -/

/-- Cycle Supervisor; a timer is the µs that remain, or stopped. -/
structure Supervisor where
  anchored   : Bool
  lastNumber : BitVec 32
  lastTime   : Nat
  warnTimer  : Option Nat
  lossTimer  : Option Nat
  linkWarn   : Bool
  lateCount  : BitVec 32
deriving DecidableEq, Repr

def Supervisor.reset : Supervisor := ⟨false, 0, 0, none, none, false, 0⟩

/-! ### Schedule Engine (03 to 09) -/

/-- A sample set entry (01 section 1.4): a value is the signed 16-bit number the cell carried. -/
inductive Sample where
  | valid (v : Int)
  | invalid
  | absent
deriving DecidableEq, Repr

/-- The sample set (R8): the 16 input channels of Table 1.3. -/
structure SampleSet where
  webSpeed    : Sample
  speedRef    : Sample
  modeRequest : Sample
  inkCoverage : Sample
  splice      : Sample
  breakCell   : Sample
  airTemp     : List Sample
  exitWebTemp : Sample
  lel         : Sample
  chillSupply : Sample
  chillExit   : Sample
deriving DecidableEq, Repr

def SampleSet.reset : SampleSet :=
  ⟨.absent, .absent, .absent, .absent, .absent, .absent, List.replicate 6 .absent, .absent, .absent, .absent, .absent⟩

/-- Stage 1's state (R31 to R33, R42). `invalid` is the present condition of SPEED_INVALID. -/
structure SpeedRec where
  lastValid : Nat
  v         : Nat
  vs        : Nat
  hold      : Nat
  invalid   : Bool
deriving DecidableEq, Repr

def SpeedRec.reset : SpeedRec := ⟨0, 0, 0, 0, false⟩

/-- Stage 2's state (R43, Table 4.1); a duration timer is its elapsed µs, or stopped (R37). -/
structure DryerRec where
  state         : DryerState
  held          : ModeRequest
  permitTimer   : Option Nat
  settleTimer   : Option Nat
  runConfirm    : Option Nat
  holdDelay     : Option Nat
  holdLimit     : Option Nat
  retryBlock    : Bool
  modeFinding   : Bool
  recipeFinding : Bool
deriving DecidableEq, Repr

def DryerRec.reset : DryerRec := ⟨.cold, .off, none, none, none, none, none, false, false, false⟩

/-- A zone record (R67, Table 5.1): setpoint in m°C, integrator in 10^-6 %, fire in 0.01 %, air in 0.1 °C. -/
structure ZoneRec where
  state    : ZoneState
  setpoint : Int
  integ    : Int
  lastFire : Int
  lastAir  : Int
  hold     : Nat
  inBand   : Bool
  overTemp : Bool
  faulted  : Bool
deriving DecidableEq, Repr

def ZoneRec.reset : ZoneRec := ⟨.off, 0, 0, 0, 0, 0, false, false, false⟩

/-- The exhaust record (R90, Table 6.1). -/
structure ExhaustRec where
  lastLel : Int
  hold    : Nat
  alarm   : Bool
  level   : Bool
deriving DecidableEq, Repr

def ExhaustRec.reset : ExhaustRec := ⟨0, 0, false, false⟩

/-- A segment record (R102, Table 7.2); `reasons` keeps the order of addition. -/
structure Segment where
  seq       : BitVec 16
  mark      : BitVec 32
  cls       : Nat
  dose      : Nat
  reasons   : List WasteReason
  exitTemp  : Option Int
  chillTemp : Option Int
  judged    : Bool
deriving DecidableEq, Repr

/-- The track state (R99, Table 7.1); the records stand head first. -/
structure TrackRec where
  odometer : BitVec 32
  residue  : Nat
  anchored : Bool
  nextMark : BitVec 32
  nextSeq  : BitVec 16
  records  : List Segment
deriving DecidableEq, Repr

def TrackRec.reset : TrackRec := ⟨0, 0, false, 0, 0, []⟩

/-- The track counters (R143, Table 9.3); the reason counters stand in reason-code order. -/
structure TrackCounters where
  admitted : BitVec 32
  good     : BitVec 32
  waste    : BitVec 32
  reasons  : List (BitVec 32)
deriving DecidableEq, Repr

def TrackCounters.reset : TrackCounters := ⟨0, 0, 0, List.replicate 10 0⟩

/-- The chill stand record (R122, Table 8.1). -/
structure ChillRec where
  stand     : StandState
  integ     : Int
  hold      : Nat
  exitFault : Bool
  supply    : Bool
deriving DecidableEq, Repr

def ChillRec.reset : ChillRec := ⟨.idle, 0, 0, false, false⟩

/-- The computation in flight (R26): its next stage, the number of its capture (R41), whether that capture
made the commissioning tables active (R104), the node state and permit as stage 2 read them (R27), and its
retirements in head order (R137). -/
structure Computation where
  stage     : Stage
  number    : BitVec 32
  activated : Bool
  node      : NodeState
  permit    : Bool
  retired   : List Segment
deriving DecidableEq, Repr

/-- The pending activation set (R165): the seven commissioning tables are pending together or not at all
(R170). -/
structure PendingSet where
  comm         : Bool
  zoneCurves   : Bool
  exhaustCurve : Bool
  chillCurves  : Bool
  doseWindows  : Bool
deriving DecidableEq, Repr

def PendingSet.empty : PendingSet := ⟨false, false, false, false, false⟩

/-- The published view (R41, Table 3.5; R121). -/
structure View where
  publication  : BitVec 32
  number       : BitVec 32
  node         : NodeState
  v            : Nat
  vs           : Nat
  held         : ModeRequest
  dryer        : DryerState
  zones        : List ZoneState
  stand        : StandState
  complete     : Bool
  zoneTag      : Nat
  exhaustTag   : Nat
  chillTag     : Nat
  doseTag      : Nat
  latch        : Bool
  causes       : BitVec 10
  firstCause   : Option Cause
  purgeDone    : Bool
  latched      : BitVec 16
  present      : BitVec 16
  pendingSet   : PendingSet
  clearPending : Bool
  writing      : Bool
  result       : StoreResult
  resetCauses  : BitVec 3
  inUp         : Bool
  outUp        : Bool
  records      : List Segment
  odometer     : BitVec 32
  nextMark     : BitVec 32
  anchored     : Bool
  counters     : TrackCounters
  fcsFailed    : BitVec 32
  malformed    : BitVec 32
  lateCount    : BitVec 32
deriving DecidableEq, Repr

/-- The fixed reset image of the published view (R42, Table 3.6, R121). Held request OFF, purge-done no and next mark 0
stand in no row of Table 3.6: the model's choice (assumption 35). -/
def View.reset : View where
  publication := 0
  number := 0
  node := .loading
  v := 0
  vs := 0
  held := .off
  dryer := .cold
  zones := List.replicate 6 .off
  stand := .idle
  complete := false
  zoneTag := 0
  exhaustTag := 0
  chillTag := 0
  doseTag := 0
  latch := false
  causes := 0
  firstCause := none
  purgeDone := false
  latched := 0
  present := 0
  pendingSet := .empty
  clearPending := false
  writing := false
  result := .none
  resetCauses := 0
  inUp := false
  outUp := false
  records := []
  odometer := 0
  nextMark := 0
  anchored := false
  counters := .reset
  fcsFailed := 0
  malformed := 0
  lateCount := 0

/-- The Schedule Engine's state (R42, Table 3.6). -/
structure Engine where
  flight   : Option Computation
  samples  : SampleSet
  speed    : SpeedRec
  dryer    : DryerRec
  zones    : List ZoneRec
  exhaust  : ExhaustRec
  track    : TrackRec
  counters : TrackCounters
  chill    : ChillRec
  working  : OutputSet
  view     : View
deriving DecidableEq, Repr

def Engine.reset : Engine where
  flight := none
  samples := .reset
  speed := .reset
  dryer := .reset
  zones := List.replicate 6 .reset
  exhaust := .reset
  track := .reset
  counters := .reset
  chill := .reset
  working := .reset
  view := .reset

/-! ### Trip Unit (R146, Table 10.1) -/

/-- A break-line filter (R151): the level taken, if any, and the µs for which the level at the terminals has
stood. -/
structure LineFilter where
  taken  : Option Bool
  stable : Nat
deriving DecidableEq, Repr

/-- No level taken (Table 10.1). A stability timer of 0 µs until the end of load starts it is the model's choice
(assumption 36). -/
def LineFilter.reset : LineFilter := ⟨none, 0⟩

/-- The trip record; the cause set is a mask, one bit per cause (Table 12.3). -/
structure TripUnit where
  latch      : Bool
  causes     : BitVec 10
  firstCause : Option Cause
  tripMark   : Bool
  flushMark  : Bool
  purgeTimer : Option Nat
  purgeDone  : Bool
  breakCell  : Bool
  filters    : List LineFilter
deriving DecidableEq, Repr

def TripUnit.reset : TripUnit where
  latch := false
  causes := 0
  firstCause := none
  tripMark := false
  flushMark := false
  purgeTimer := none
  purgeDone := false
  breakCell := false
  filters := List.replicate 4 .reset

/-! ### Service Handler and Parameter Store (11) -/

/-- The Service Handler's state (R178 table, R165, R171, R174, R175, R177). `writing` holds, while a STORE is in
flight, the image taken at its acceptance (R172); the store state is WRITING exactly then. -/
structure Handler where
  node           : NodeState
  active         : Tables
  shadow         : Tables
  pendingSet     : PendingSet
  clearPending   : Bool
  latched        : BitVec 16
  enable         : BitVec 16
  writing        : Option Commissioning
  result         : StoreResult
  defaultsActive : Bool
  resetCauses    : BitVec 3
  lineResetDue   : Bool
deriving DecidableEq, Repr

/-- Both copies while the node is LOADING: nothing reads them until load gives their contents (R173);
assumption 4. -/
def Tables.loading : Tables := ⟨.defaults, .blank⟩

/-- The Service Handler after any reset (R178 table). A LINE reset that an accepted LINE_RESET has made due and that has not
yet taken effect is discarded by a reset that falls before it: the model's choice (assumption 41). -/
def Handler.reset (causes : BitVec 3) : Handler where
  node := .loading
  active := .loading
  shadow := .loading
  pendingSet := .empty
  clearPending := false
  latched := 0
  enable := 0
  writing := none
  result := .none
  defaultsActive := false
  resetCauses := causes
  lineResetDue := false

/-- The Parameter Store: nonvolatile, unchanged by resets (R172). -/
structure ParamStore where
  image  : Commissioning
  marker : Bool
deriving DecidableEq, Repr

/-! ### Pins (00_scope.md 2.2) -/

/-- Levels at the terminals (true is high) and what the physical layer of each port reports (R1, true is a link
established). HEAT_PERMIT has no memory between steps (R64) and is an operand of the dryer step. -/
structure Pins where
  resetN      : Bool
  breakLines  : List Bool
  phyIn       : Bool
  phyOut      : Bool
  heatRequest : Bool
  tripLine    : Bool
  alertLine   : Bool
deriving DecidableEq, Repr

/-! ### Replies (R163, Table 12.2) -/

/-- Why a service record is refused (Table 12.2). -/
inductive Reason where
  | kind | table | range | readOnly | state | busy | check | length | active | purging
deriving DecidableEq, Repr

/-- The status of a reply (R163). -/
inductive Status where
  | done
  | accepted
  | refused (why : Reason)
deriving DecidableEq, Repr

/-- What the Service Handler writes over a record (R180): status and reason, view, payload. -/
structure Reply where
  status  : Status
  view    : BitVec 32
  payload : List Word
deriving DecidableEq, Repr

/-! ### The whole part -/

/-- The state of the part. `localTime` is the count of µs since the end of load (R15). The last four fields are
the model's own (assumption 5): the frames that have left OUT, oldest first; the last reply written; the count
of free choices made; the queue of commands that wait. -/
structure State where
  port      : LinePort
  sup       : Supervisor
  engine    : Engine
  trip      : TripUnit
  svc       : Handler
  nv        : ParamStore
  pins      : Pins
  localTime : Nat
  sent      : List EthFrame
  lastReply : Option Reply
  choices   : Nat
  pending   : List Instr
deriving DecidableEq, Repr

/-- The part right after a power-on reset, load begun (R178, R42, R146, Table 1.2, Table 2.1). Levels outside the
part, the Parameter Store's content and the model's own fields: assumptions 4 and 5. -/
def State.reset : State where
  port := ⟨false, false, .reset, 0, 0⟩
  sup := .reset
  engine := .reset
  trip := .reset
  svc := .reset ResetCause.powerOn.mask
  nv := ⟨.defaults, false⟩
  pins := ⟨true, [false, false, false, false], false, false, false, true, false⟩
  localTime := 0
  sent := []
  lastReply := none
  choices := 0
  pending := []

/-! ### Stops -/

/-- Reasons to stop with a fault: none. Every command of the table has a next state (INVENTORY.md, Faults). -/
inductive Fault where
deriving DecidableEq, Repr

/-- Reasons to refuse a command. -/
inductive Refusal where
  /-- Raised by a dispatch arm whose command has no meaning yet; safe. No arm raises it. -/
  | notModelled (mnemonic : String)
deriving DecidableEq, Repr

end Sys2Proof.Machine
end

