-- ==== Sys2Proof/Machine/Flags.lean ====
section
/-!
DEFINITION. Every flag computation: the sixteen latched condition flags and their present conditions (R174), the
ALERT line (R175), the TRIP line (R150) and the HEAT_REQUEST line (R63).
-/
namespace Sys2Proof.Machine

/-- The flags in bit order (Table 12.3). -/
def allFlags : List Flag :=
  [.linkWarn, .cycleIrregular, .overrun, .speedInvalid, .modeInvalid, .zoneFault, .overtemp, .lelAlarm,
    .permitLost, .permitTimeout, .recipeMissing, .trip, .notice, .chillFault, .storeFail, .storeInvalid]

/-- The bit number of a flag (Table 12.3). -/
def Flag.bit : Flag → Nat
  | .linkWarn => 0 | .cycleIrregular => 1 | .overrun => 2 | .speedInvalid => 3
  | .modeInvalid => 4 | .zoneFault => 5 | .overtemp => 6 | .lelAlarm => 7
  | .permitLost => 8 | .permitTimeout => 9 | .recipeMissing => 10 | .trip => 11
  | .notice => 12 | .chillFault => 13 | .storeFail => 14 | .storeInvalid => 15

/-- The mask of one flag. -/
def Flag.mask (f : Flag) : BitVec 16 := BitVec.ofNat 16 (2 ^ f.bit)

/-- The mask of a set of flags. -/
def flagSet (fs : List Flag) : BitVec 16 := fs.foldr (fun f m => f.mask ||| m) 0

/-- A flag is in a set. -/
def hasFlag (m : BitVec 16) (f : Flag) : Bool := m.getLsbD f.bit

/-! ### The three output lines -/

/-- The heated dryer states (Table 0.2). -/
def DryerState.heated : DryerState → Bool
  | .preheat | .ready | .run | .hold => true
  | .cold | .purge | .cooldown => false

/-- The level of HEAT_REQUEST (R63). -/
def State.heatLevel (s : State) : Bool :=
  s.engine.dryer.state.heated && s.svc.node == .operate && !s.trip.latch && !s.trip.tripMark

/-- The level of TRIP (R150). -/
def State.tripLevel (s : State) : Bool := s.trip.latch || s.svc.node == .loading

/-- The level of ALERT (R175). -/
def State.alertLevel (s : State) : Bool := (s.svc.latched &&& s.svc.enable) != 0

/-- HEAT_REQUEST formed anew (R63). -/
def State.formHeat (s : State) : State := { s with pins := { s.pins with heatRequest := s.heatLevel } }

/-- TRIP formed anew (R150). -/
def State.formTrip (s : State) : State := { s with pins := { s.pins with tripLine := s.tripLevel } }

/-- ALERT formed anew (R175). -/
def State.formAlert (s : State) : State := { s with pins := { s.pins with alertLine := s.alertLevel } }

/-- All three lines formed anew. -/
def State.formLines (s : State) : State := s.formHeat.formTrip.formAlert

/-! ### Latching (R174) -/

/-- A flag is latched; ALERT follows at once (R174, R175). -/
def State.latchFlag (f : Flag) (s : State) : State :=
  { s with svc := { s.svc with latched := s.svc.latched ||| f.mask } }.formAlert

/-- A flag is latched where its condition occurs. -/
def State.latchIf (c : Bool) (f : Flag) (s : State) : State := if c then s.latchFlag f else s

/-! ### Present conditions (Table 11.4) -/

/-- The record of zone `z`. -/
def Engine.zone (e : Engine) (z : Nat) : ZoneRec := e.zones.getD z .reset

/-- The filter of break line `k`. -/
def TripUnit.filter (t : TripUnit) (k : Nat) : LineFilter := t.filters.getD k .reset

/-- A level-mode line is active while its taken level is the active level of its mode (Table 10.3). -/
def LineMode.active : LineMode → Option Bool → Bool
  | .high, some true => true
  | .low, some false => true
  | _, _ => false

/-- Break line `k` is active (R152). -/
def State.lineActive (s : State) (k : Nat) : Bool :=
  (s.svc.active.comm.lineMode k).active (s.trip.filter k).taken

/-- The present condition of a flag (Table 11.4); a flag without one has none present. Of the zones only the active ones
count (assumption 28); SPEED_INVALID's is what stage 1 keeps (assumption 38). -/
def State.presentOf (s : State) : Flag → Bool
  | .linkWarn => s.sup.linkWarn
  | .cycleIrregular => false
  | .overrun => false
  | .speedInvalid => s.engine.speed.invalid
  | .modeInvalid => s.engine.dryer.modeFinding
  | .zoneFault => s.svc.active.comm.activeZones.any fun z => (s.engine.zone z).faulted
  | .overtemp => s.svc.active.comm.activeZones.any fun z => (s.engine.zone z).overTemp
  | .lelAlarm => s.engine.exhaust.alarm
  | .permitLost => false
  | .permitTimeout => false
  | .recipeMissing => s.engine.dryer.recipeFinding
  | .trip => s.trip.latch
  | .notice => (List.range 4).any fun k => s.lineActive k && s.svc.active.comm.lineAction k == .notice
  | .chillFault => s.engine.chill.exitFault || s.engine.chill.supply
  | .storeFail => false
  | .storeInvalid => !s.nv.marker && s.svc.writing.isNone

/-- The set of flags whose present condition holds. -/
def State.presentSet (s : State) : BitVec 16 := flagSet (allFlags.filter s.presentOf)

end Sys2Proof.Machine
end

