-- ==== Sys2Proof/Machine/Ops.lean ====
section
/-!
DEFINITION. The operations the commands share: local time (R15), engine timers (R37), curves (R34, R35), a trip's
arrival (R147, R148), the reset of every block (R178), and access by index.
-/
namespace Sys2Proof.Machine

/-! ### Local time (R15, R23, R24, R146, R151) -/

/-- The Cycle Supervisor's timers run down; a stopped timer stays stopped. -/
def Supervisor.elapse (p : Supervisor) (dt : Nat) : Supervisor :=
  { p with warnTimer := p.warnTimer.map (· - dt), lossTimer := p.lossTimer.map (· - dt) }

/-- The purge timer runs down and the stability timers of the break lines run on. -/
def TripUnit.elapse (t : TripUnit) (dt : Nat) : TripUnit :=
  { t with
    purgeTimer := t.purgeTimer.map (· - dt)
    filters := t.filters.map fun f => { f with stable := f.stable + dt } }

/-- `dt` µs of local time pass. A timer that has run down to 0 waits there for the command that takes its expiry
(assumption 7). -/
def State.elapse (s : State) (dt : Nat) : State :=
  { s with localTime := s.localTime + dt, sup := s.sup.elapse dt, trip := s.trip.elapse dt }

/-- Local time moves on to `time`; it does not run while the node is LOADING, and never backward (R15). -/
def State.advanceTo (s : State) (time : Nat) : State :=
  if s.svc.node = .loading then s else s.elapse (time - s.localTime)

/-- A local-time timer that runs and has no time left. -/
def timerDue (t : Option Nat) : Bool := t == some 0

/-! ### Engine timers (R37) -/

/-- 2^33 − 1 µs, where every engine timer saturates (R37). -/
def timerMax : Nat := 8589934591

/-- A running timer advanced by one cycle period. -/
def advanceTimer (elapsed period : Nat) : Nat := min (elapsed + period) timerMax

/-- A duration timer in one computation: it starts at 0, runs on, or stops and loses its count (R37). -/
def durationStep (t : Option Nat) (runs : Bool) (period : Nat) : Option Nat :=
  if runs then
    match t with
    | none => some 0
    | some e => some (advanceTimer e period)
  else none

/-- A duration timer is reached when it runs and its time is at or above its setting (R37). -/
def reached (t : Option Nat) (setting : Nat) : Bool :=
  match t with
  | none => false
  | some e => setting ≤ e

/-- A sample that is VALID. -/
def Sample.isValid : Sample → Bool
  | .valid _ => true
  | .invalid | .absent => false

/-- A sample that is VALID and not 0. -/
def Sample.asserted : Sample → Bool
  | .valid v => v != 0
  | .invalid | .absent => false

/-- A hold timer in one computation: 0 on a valid sample, otherwise one period more (R37). -/
def holdStep (t : Nat) (sample : Sample) (period : Nat) : Nat :=
  if sample.isValid then 0 else advanceTimer t period

/-- The AIR_TEMP[z] entry of the sample set. -/
def SampleSet.air (s : SampleSet) (z : Nat) : Sample := s.airTemp.getD z .absent

/-! ### Curves (R34, R35) -/

/-- The rest of a curve beyond breakpoint (x0, y0), at an input above x0 (R34). -/
def curveFrom (x0 : Nat) (y0 : Int) : List Breakpoint → Nat → Int
  | [], _ => y0
  | (x1, y1) :: rest, x =>
    if x < x1 then y0 + trunc ((y1 - y0) * ((x : Int) - x0)) ((x1 : Int) - x0)
    else curveFrom x1 y1 rest x

/-- The value of a curve at an input (R34); an empty curve gives 0 (R35). -/
def curveValue : List Breakpoint → Nat → Int
  | [], _ => 0
  | (x0, y0) :: rest, x => if x ≤ x0 then y0 else curveFrom x0 y0 rest x

/-! ### A trip arrives at the Trip Unit (R147, R148) -/

/-- The mask of one cause in the cause set. -/
def Cause.mask (c : Cause) : BitVec 10 := BitVec.ofNat 10 (2 ^ c.bit)

/-- The trip record once a trip has set the latch from clear (R147). -/
def TripUnit.latched (t : TripUnit) (c : Cause) (purge : Nat) : TripUnit :=
  { t with
    latch := true
    causes := c.mask
    firstCause := some c
    tripMark := true
    flushMark := true
    purgeTimer := some purge
    purgeDone := false }

/-- The trip record once a trip has found the latch set (R148). -/
def TripUnit.retriggered (t : TripUnit) (c : Cause) (purge : Nat) : TripUnit :=
  { t with causes := t.causes ||| c.mask, purgeTimer := some purge, purgeDone := false }

/-- A trip with cause `c` arrives (R147, R148): the purge time is that of the active LIMITS (R160). -/
def State.tripArrives (c : Cause) (s : State) : State :=
  if s.trip.latch then
    State.latchFlag .trip { s with trip := s.trip.retriggered c s.svc.active.comm.purgeTime }
  else
    (State.latchFlag .trip { s with trip := s.trip.latched c s.svc.active.comm.purgeTime }).formTrip.formHeat

/-- A trip arrives where its source finds its condition. -/
def State.tripIf (cond : Bool) (c : Cause) (s : State) : State := if cond then s.tripArrives c else s

/-! ### The computation in flight (R26) -/

/-- `f` where a computation is in flight and `stage` is its next; otherwise the stage does not take place and
nothing changes (assumption 8). -/
def State.atStage (s : State) (stage : Stage) (f : Computation → State) : State :=
  match s.engine.flight with
  | none => s
  | some c => if c.stage = stage then f c else s

/-! ### Resets (R178, R1, R30) -/

/-- Every block takes its reset values (R178): the Parameter Store, the levels at the terminals and the model's
own fields stay. While RESET_N is low both ports are DOWN; otherwise load begins, and each takes the state its
physical layer reports (R1). -/
def State.resetBlocks (s : State) (causes : BitVec 3) : State :=
  State.formLines
    { s with
      port := ⟨s.pins.resetN && s.pins.phyIn, s.pins.resetN && s.pins.phyOut, .reset, 0, 0⟩
      sup := .reset
      engine := .reset
      trip := .reset
      svc := .reset causes
      localTime := 0 }

end Sys2Proof.Machine
end

