-- ==== Sys2Proof/Machine/BreakLines.lean ====
section
/-!
DEFINITION. The break lines (R151 to R154) and the expiry of the purge (R149).
-/
namespace Sys2Proof.Machine

/-- The qualifying changes of Table 10.3: mode, taken level before (none before the first take), level taken. -/
def LineMode.qualifies : LineMode → Option Bool → Bool → Bool
  | .unused, _, _ => false
  | .rising, old, level => old == some false && level
  | .falling, old, level => old == some true && !level
  | .both, old, level => old == some (!level)
  | .high, _, level => level
  | .low, _, level => !level

/-- A qualifying change of line `k` is acted on by its action (R153). -/
def State.lineAct (k : Fin 4) (s : State) : State :=
  match s.svc.active.comm.lineAction k.val with
  | .trip => s.tripArrives (.breakLine k)
  | .notice => s.latchFlag .notice

/-- The level of line `k` at the terminals. -/
def Pins.line (p : Pins) (k : Nat) : Bool := p.breakLines.getD k false

/-- The taken level of line `k` replaced. -/
def TripUnit.take (t : TripUnit) (k : Nat) (level : Bool) : TripUnit :=
  { t with filters := t.filters.set k { t.filter k with taken := some level } }

/-- The level at the terminals of line `k` is taken (R151): it is judged where it differs from the taken level or
none has been taken yet; otherwise nothing follows. -/
def State.takeLevel (k : Fin 4) (s : State) : State :=
  let level := s.pins.line k.val
  let old := (s.trip.filter k.val).taken
  if old = some level then s
  else
    let s1 := { s with trip := s.trip.take k.val level }
    if (s.svc.active.comm.lineMode k.val).qualifies old level then s1.lineAct k else s1

/-- The level of line `k` has been stable for the filter time of the active INPUT_LINES (R151). -/
def State.lineStable (s : State) (k : Fin 4) : Bool :=
  s.svc.active.comm.filterTime k.val ≤ (s.trip.filter k.val).stable

/-- The level at the terminals of line `k` changes: the stability timer restarts on the new level (R151). -/
def State.changeLevel (k : Fin 4) (high : Bool) (s : State) : State :=
  { s with
    pins := { s.pins with breakLines := s.pins.breakLines.set k.val high }
    trip := { s.trip with filters := s.trip.filters.set k.val { s.trip.filter k.val with stable := 0 } } }

/-- BREAK_LINE_LEVEL_CHANGE (R151): a level the line already presents is no change; with a filter time of 0 ms the
new level is taken at that moment. While the node is LOADING only the level at the terminals changes: the filter
starts at the end of load. -/
def State.lineChanged (line : Fin 4) (high : Bool) (time : Nat) (s : State) : State :=
  if s.pins.line line.val = high then s
  else if s.svc.node = .loading then
    { s with pins := { s.pins with breakLines := s.pins.breakLines.set line.val high } }
  else
    let s1 := (s.advanceTo time).changeLevel line high
    if s1.lineStable line then s1.takeLevel line else s1

/-- BREAK_LINE_LEVEL_CHANGE (R151). -/
def execBreakLineLevelChange (line : Fin 4) (high : Bool) (time : Nat) (s : State) :
    Host.Outcome State Fault Refusal :=
  .next (s.lineChanged line high time)

/-- BREAK_LINE_LEVEL_TAKEN (R151, R152, R153): the level at the terminals is taken where it has been stable for the
filter time; a level not yet stable is not taken (assumption 7). The filter does not run while LOADING. -/
def execBreakLineLevelTaken (line : Fin 4) (time : Nat) (s : State) : Host.Outcome State Fault Refusal :=
  .next <|
    if s.svc.node = .loading then s
    else if (s.advanceTo time).lineStable line then (s.advanceTo time).takeLevel line else s

/-- PURGE_EXPIRY (R149): purge-done becomes yes and the timer stops; nothing else changes. A purge timer with time
left does not expire (assumption 7). -/
def execPurgeExpiry (time : Nat) (s : State) : Host.Outcome State Fault Refusal :=
  .next <|
    if timerDue (s.advanceTo time).trip.purgeTimer then
      { s.advanceTo time with trip := { (s.advanceTo time).trip with purgeTimer := none, purgeDone := true } }
    else s

/-! ### The capture that activates INPUT_LINES (R154, R151) -/

/-- The lines, ascending, from line `first` on and round again. -/
def linesFrom (first : Fin 4) : List (Fin 4) := [first, first + 1, first + 2, first + 3]

/-- Lines that qualify at an activating capture: a level mode whose taken level is its active level (R154). -/
def State.activatedLines (s : State) : List (Fin 4) :=
  [(0 : Fin 4), 1, 2, 3].filter fun k => s.lineActive k.val

/-- Lines whose level is taken at an activating capture: stable for the new filter time already, and not the taken
level (R151). -/
def State.dueLines (s : State) : List (Fin 4) :=
  [(0 : Fin 4), 1, 2, 3].filter fun k =>
    s.lineStable k && (s.trip.filter k.val).taken != some (s.pins.line k.val)

/-- Several lines at one moment: either may be first (R148), so where there are two or more the first is a free
value, and the choice is counted (assumption 2). -/
def State.inSomeOrder (s : State) (lines : List (Fin 4)) (act : Fin 4 → State → State) : State :=
  if lines.length ≤ 1 then lines.foldl (fun s' k => act k s') s
  else
    ((linesFrom (Config.lineTakenFirst s.choices)).filter lines.contains).foldl (fun s' k => act k s')
      { s with choices := s.choices + 1 }

/-- What the break lines do at a capture that has made a new INPUT_LINES active (R154, then R151; assumption 17). -/
def State.judgeLines (s : State) : State :=
  let s1 := s.inSomeOrder s.activatedLines State.lineAct
  s1.inSomeOrder s1.dueLines State.takeLevel

end Sys2Proof.Machine
end

