-- ==== Sys2Proof/Machine/Operands.lean ====
section
/-!
DEFINITION. Every operand form: line frames, cells and service records as bytes (R179), the codes of Table 12.3,
the packing of the report cells (Table 12.4), and the words of the read-only tables (Table 12.5, R180).
-/
namespace Sys2Proof.Machine

/-! ### Line frames (R179) -/

/-- The type field of a line frame (R179). -/
def lineFrameType : Half := 0x89A2

/-- The two frame kinds (Table 12.1). -/
inductive FrameKind where
  | cycle | service
deriving DecidableEq, Repr

/-- A cell of the process lane: value and quality byte (R179). -/
structure Cell where
  value   : Half
  quality : Byte
deriving DecidableEq, Repr

/-- A service record (Table 12.2); its payload length is that of its payload. -/
structure Record where
  mode    : Byte
  kind    : Byte
  table   : Byte
  option  : Byte
  address : BitVec 48
  index   : Half
  count   : Byte
  status  : Byte
  reason  : Byte
  view    : BitVec 32
  payload : List Word
deriving DecidableEq, Repr

/-- A line frame; `padding` are the payload bytes after the end of the lanes (R4). -/
structure LineFrame where
  kind    : FrameKind
  number  : BitVec 32
  cells   : List Cell
  records : List Record
  padding : List Byte
deriving DecidableEq, Repr

/-- The first `n` bytes and the rest, where there are that many. -/
def splitBytes (n : Nat) (bs : List Byte) : Option (List Byte × List Byte) :=
  if n ≤ bs.length then some (bs.take n, bs.drop n) else none

/-- A byte at an offset. -/
def byteAt (bs : List Byte) (i : Nat) : Byte := bs.getD i 0

/-- The number in `n` bytes from an offset on. -/
def numberAt (bs : List Byte) (i n : Nat) : Nat := bytesToNat ((bs.drop i).take n)

/-- `n` cells of 3 bytes (R179). -/
def parseCells : Nat → List Byte → Option (List Cell × List Byte)
  | 0, bs => some ([], bs)
  | n + 1, bs =>
    match splitBytes 3 bs with
    | none => none
    | some (c, rest) =>
      match parseCells n rest with
      | none => none
      | some (cells, rest') => some (⟨BitVec.ofNat 16 (numberAt c 0 2), byteAt c 2⟩ :: cells, rest')

/-- The record with this 20-byte head and these payload bytes (Table 12.2). -/
def recordOf (head body : List Byte) : Record where
  mode := byteAt head 0
  kind := byteAt head 1
  table := byteAt head 2
  option := byteAt head 3
  address := BitVec.ofNat 48 (numberAt head 4 6)
  index := BitVec.ofNat 16 (numberAt head 10 2)
  count := byteAt head 12
  status := byteAt head 13
  reason := byteAt head 14
  view := BitVec.ofNat 32 (numberAt head 16 4)
  payload := bytesToWords (body.length / 4) body

/-- One record; none when it declares more than 16 words or runs past the payload's end (R4). -/
def parseRecord (bs : List Byte) : Option (Record × List Byte) :=
  match splitBytes 20 bs with
  | none => none
  | some (head, rest) =>
    if 16 < (byteAt head 15).toNat then none
    else
      match splitBytes (4 * (byteAt head 15).toNat) rest with
      | none => none
      | some (body, rest') => some (recordOf head body, rest')

/-- `n` records, one after another (R179). -/
def parseRecords : Nat → List Byte → Option (List Record × List Byte)
  | 0, bs => some ([], bs)
  | n + 1, bs =>
    match parseRecord bs with
    | none => none
    | some (r, rest) =>
      match parseRecords n rest with
      | none => none
      | some (rs, rest') => some (r :: rs, rest')

/-- Frame kind codes (Table 12.1). -/
def FrameKind.ofCode (c : Byte) : Option FrameKind :=
  if c = 1 then some .cycle else if c = 2 then some .service else none

def FrameKind.code : FrameKind → Byte
  | .cycle => 1
  | .service => 2

/-- The lanes that a header of this kind, number, cell count and record count describes. -/
def parseLanes (kind : FrameKind) (number : BitVec 32) (cells records : Nat) (bs : List Byte) : Option LineFrame :=
  match parseCells cells bs with
  | none => none
  | some (cs, rest) =>
    match parseRecords records rest with
    | none => none
    | some (rs, padding) => some ⟨kind, number, cs, rs, padding⟩

/-- The checks of R4 on a payload of the line-frame type; none is malformed. -/
def parseFrame (bs : List Byte) : Option LineFrame :=
  match splitBytes 9 bs with
  | none => none
  | some (head, rest) =>
    match FrameKind.ofCode (byteAt head 1) with
    | none => none
    | some kind =>
      if byteAt head 0 ≠ 1 ∨ 256 < numberAt head 6 2 ∨ 8 < (byteAt head 8).toNat
          ∨ (kind = .service ∧ numberAt head 6 2 ≠ 0) then none
      else
        parseLanes kind (BitVec.ofNat 32 (numberAt head 2 4)) (numberAt head 6 2) (byteAt head 8).toNat rest

/-- The bytes of a cell (R179). -/
def cellBytes (c : Cell) : List Byte := natToBytes 2 c.value.toNat ++ [c.quality]

/-- The bytes of a record (Table 12.2). -/
def recordBytes (r : Record) : List Byte :=
  [r.mode, r.kind, r.table, r.option] ++ natToBytes 6 r.address.toNat ++ natToBytes 2 r.index.toNat
    ++ [r.count, r.status, r.reason, BitVec.ofNat 8 r.payload.length] ++ natToBytes 4 r.view.toNat
    ++ r.payload.flatMap wordBytes

/-- The payload of a line frame (R179). -/
def frameBytes (f : LineFrame) : List Byte :=
  [1, f.kind.code] ++ natToBytes 4 f.number.toNat ++ natToBytes 2 f.cells.length
    ++ [BitVec.ofNat 8 f.records.length]
    ++ f.cells.flatMap cellBytes ++ f.records.flatMap recordBytes ++ f.padding

/-- A line frame whose counts the header can carry (R4): what `frameBytes` writes, `parseFrame` reads. -/
def LineFrame.wellFormed (f : LineFrame) : Bool :=
  f.cells.length ≤ 256 && f.records.length ≤ 8 && (f.kind == .cycle || f.cells.isEmpty)
    && f.records.all fun r => r.payload.length ≤ 16

/-! ### Codes (Table 12.3) -/

def NodeState.code : NodeState → Nat
  | .loading => 0 | .config => 1 | .operate => 2

def DryerState.code : DryerState → Nat
  | .cold => 0 | .preheat => 1 | .ready => 2 | .run => 3 | .hold => 4 | .purge => 5 | .cooldown => 6

def ModeRequest.code : ModeRequest → Nat
  | .off => 0 | .heat => 1 | .produce => 2

def ZoneState.code : ZoneState → Nat
  | .off => 0 | .blocked => 1 | .firing => 2 | .limited => 3 | .holding => 4 | .fault => 5

def StandState.code : StandState → Nat
  | .idle => 0 | .still => 1 | .tracking => 2

/-- First-cause code: bit + 1, 0 none. -/
def firstCauseCode : Option Cause → Nat
  | none => 0
  | some c => c.bit + 1

/-- Waste reasons in code order. -/
def allReasons : List WasteReason :=
  [.start, .splice, .zone, .underdose, .overdose, .exitTemp, .chillHot, .unmeasured, .break_, .config]

def WasteReason.code : WasteReason → Nat
  | .start => 1 | .splice => 2 | .zone => 3 | .underdose => 4 | .overdose => 5 | .exitTemp => 6
  | .chillHot => 7 | .unmeasured => 8 | .break_ => 9 | .config => 10

/-- The reason code of GATE: 0 none. -/
def reasonCode : Option WasteReason → Nat
  | none => 0
  | some r => r.code

def GateVerdict.code : GateVerdict → Nat
  | .none => 0 | .good => 1 | .waste => 2

def StoreResult.code : StoreResult → Nat
  | .none => 0 | .ok => 1 | .failed => 2

def Reason.code : Reason → Byte
  | .kind => 1 | .table => 2 | .range => 3 | .readOnly => 4 | .state => 5 | .busy => 6
  | .check => 7 | .length => 8 | .active => 9 | .purging => 10

/-- Status byte of a reply (Table 12.2). -/
def Status.code : Status → Byte
  | .done => 1
  | .accepted => 2
  | .refused _ => 3

/-- Reason byte of a reply: 0 on DONE and ACCEPTED (R180). -/
def Status.reasonByte : Status → Byte
  | .done => 0
  | .accepted => 0
  | .refused why => why.code

/-- A Bool as a number: 1 yes, 0 no. -/
def bit (b : Bool) : Nat := if b then 1 else 0

/-! ### Input channels (Table 1.3) and output channels (Table 1.4) -/

/-- The 16 bits of DRYER_STATUS (Table 12.4). -/
def DryerStatus.pack (d : DryerStatus) : Half :=
  BitVec.ofNat 16 (d.dryer.code + 8 * d.node.code + 32 * bit d.latch + 64 * bit d.complete)

/-- The 16 bits of GATE (Table 12.4). -/
def Gate.pack (g : Gate) : Half :=
  BitVec.ofNat 16 (g.verdict.code + 4 * g.count + 32 * reasonCode g.reason)

/-- Channel codes of the inputs (Table 12.3). -/
def isInputChannel (ch : Nat) : Bool := 1 ≤ ch && ch ≤ 16

/-- Channel codes of the outputs (Table 12.3). -/
def isOutputChannel (ch : Nat) : Bool := 32 ≤ ch && ch ≤ 55

/-- The code of FIRE[z] (Table 12.3). -/
def fireChannel (z : Nat) : Nat := 32 + z

/-- The 16-bit value of an output channel (Table 1.4). -/
def OutputSet.value (o : OutputSet) (ch : Nat) : Half :=
  if ch < 38 then cellBits (o.fire.getD (ch - 32) 0)
  else if ch < 44 then cellBits (o.fan.getD (ch - 38) 0)
  else if ch = 44 then cellBits o.exhaust
  else if ch < 53 then cellBits (o.valve.getD (ch - 45) 0)
  else if ch = 53 then o.status.pack
  else if ch = 54 then o.gate.pack
  else o.alert

/-! ### The read-only tables (Table 12.5) -/

/-- The pending set as a mask: bit t for table id t, bit 31 the pending counter clear. -/
def pendingMask (p : PendingSet) (clear : Bool) : Nat :=
  bit p.comm * (2 + 4 + 8 + 16 + 32 + 64 + 128) + bit p.zoneCurves * 2 ^ 10 + bit p.exhaustCurve * 2 ^ 11
    + bit p.chillCurves * 2 ^ 12 + bit p.doseWindows * 2 ^ 13 + bit clear * 2 ^ 31

/-- The states of the six zones, four bits each, zone 0 lowest. -/
def zoneNibbles (zs : List ZoneState) : Nat := (tabulate 6 fun z => (zs.getD z .off).code * 16 ^ z).sum

/-- The 21 words of STATUS; bits Table 12.5 does not name are 0 (assumption 22). That word 8 holds the tag of CHILL_CURVES
in its upper half and that of DOSE_WINDOWS in its lower half is read from word 7 (assumption 37). -/
def View.statusWords (v : View) : List Word :=
  [ v.publication,
    v.number,
    BitVec.ofNat 32 (v.node.code * 2 ^ 24 + v.dryer.code * 2 ^ 16 + v.held.code * 2 ^ 8 + v.stand.code),
    BitVec.ofNat 32 (zoneNibbles v.zones),
    BitVec.ofNat 32 v.v,
    BitVec.ofNat 32 v.vs,
    BitVec.ofNat 32 (bit v.complete),
    BitVec.ofNat 32 (v.zoneTag * 65536 + v.exhaustTag),
    BitVec.ofNat 32 (v.chillTag * 65536 + v.doseTag),
    BitVec.ofNat 32 (bit v.latch + 2 * bit v.purgeDone + 256 * firstCauseCode v.firstCause),
    BitVec.ofNat 32 v.causes.toNat,
    BitVec.ofNat 32 v.latched.toNat,
    BitVec.ofNat 32 v.present.toNat,
    BitVec.ofNat 32 (pendingMask v.pendingSet v.clearPending),
    BitVec.ofNat 32 (bit v.writing + 256 * v.result.code),
    BitVec.ofNat 32 v.resetCauses.toNat,
    BitVec.ofNat 32 v.records.length,
    v.odometer,
    v.nextMark,
    BitVec.ofNat 32 (bit v.anchored),
    BitVec.ofNat 32 (bit v.inUp + 2 * bit v.outUp) ]

/-- The reason set as a mask; the bit of a reason is its code − 1 (Table 12.3). -/
def reasonMask (rs : List WasteReason) : Nat :=
  (allReasons.map fun r => bit (rs.contains r) * 2 ^ (r.code - 1)).sum

/-- The upper and lower half of a word. -/
def halves (hi lo : Half) : Word := BitVec.ofNat 32 (hi.toNat * 65536 + lo.toNat)

/-- The 16 bits of an optional temperature: an absent one is 0 (R180). -/
def tempBits : Option Int → Half
  | none => 0
  | some t => cellBits t

/-- The four words of a TRACK entry that holds a record (Table 12.5). -/
def Segment.words (g : Segment) : List Word :=
  [ BitVec.ofNat 32 (2 ^ 31 + bit g.judged * 2 ^ 30 + bit g.exitTemp.isSome * 2 ^ 29 + bit g.chillTemp.isSome * 2 ^ 28
      + g.cls % 4 * 2 ^ 26 + reasonMask g.reasons * 2 ^ 16 + g.seq.toNat),
    g.mark,
    BitVec.ofNat 32 g.dose,
    halves (tempBits g.exitTemp) (tempBits g.chillTemp) ]

/-- One TRACK entry: four words of 0 at or beyond the occupancy (R180). -/
def trackEntry (records : List Segment) (i : Nat) : List Word :=
  match records[i]? with
  | none => [0, 0, 0, 0]
  | some g => g.words

/-- The 128 entries of TRACK (R166). -/
def View.trackWords (v : View) : List Word := (tabulate 128 (trackEntry v.records)).flatten

/-- The 16 words of COUNTERS. -/
def View.counterWords (v : View) : List Word :=
  [v.counters.admitted, v.counters.good, v.counters.waste]
    ++ tabulate 10 (fun i => v.counters.reasons.getD i 0)
    ++ [v.fcsFailed, v.malformed, v.lateCount]

/-- The six words of IDENTITY (R166); serial number and revision come from Config. -/
def identityWords (revision : Word) (serial : BitVec 48) : List Word :=
  [0x524A, 6, 640, revision, BitVec.ofNat 32 (serial.toNat / 2 ^ 32), BitVec.ofNat 32 (serial.toNat % 2 ^ 32)]

end Sys2Proof.Machine
end

