-- ==== Sys2Proof/Machine/Track.lean ====
section
/-!
DEFINITION. Stage 5, the web track (R99 to R121), the verdicts (R137) and the track counters (R143).
-/
namespace Sys2Proof.Machine

/-! ### Reasons, verdicts and counters -/

/-- A reason added to a record: at most once, after those it holds (R102). -/
def Segment.addReason (g : Segment) (r : WasteReason) : Segment :=
  if g.reasons.contains r then g else { g with reasons := g.reasons ++ [r] }

/-- A reason added where its condition holds. -/
def Segment.addIf (g : Segment) (cond : Bool) (r : WasteReason) : Segment := if cond then g.addReason r else g

/-- A retired segment is WASTE when its set holds a reason (R137). -/
def Segment.isWaste (g : Segment) : Bool := !g.reasons.isEmpty

/-- The track counters after one retirement (R143). -/
def TrackCounters.retire (k : TrackCounters) (g : Segment) : TrackCounters :=
  if g.isWaste then
    { k with
      waste := k.waste + 1
      reasons := allReasons.map fun r => k.reasons.getD (r.code - 1) 0 + BitVec.ofNat 32 (bit (g.reasons.contains r)) }
  else { k with good := k.good + 1 }

/-- The track counters after a list of retirements, in order. -/
def TrackCounters.retireAll (k : TrackCounters) (gs : List Segment) : TrackCounters := gs.foldl TrackCounters.retire k

/-! ### Part 1: advance (R100) -/

/-- The mm by which the odometer advances: trunc((R + v × P) / 1,000,000). -/
def TrackRec.advanceBy (t : TrackRec) (v period : Nat) : Nat := (t.residue + v * period) / 1000000

/-- The odometer and residue after the advance (R100). -/
def TrackRec.advanced (t : TrackRec) (v period : Nat) : TrackRec :=
  { t with
    odometer := t.odometer + BitVec.ofNat 32 (t.advanceBy v period)
    residue := (t.residue + v * period) % 1000000 }

/-! ### Positions (R101) -/

/-- The position of a record: odometer less mark, modulo 2^32. -/
def Segment.position (g : Segment) (odometer : BitVec 32) : Nat := (odometer - g.mark).toNat

/-- The midpoint, a signed number: position less trunc(L/2). -/
def Segment.midpoint (g : Segment) (odometer : BitVec 32) (length : Nat) : Int :=
  (g.position odometer : Int) - (length / 2 : Nat)

/-! ### Part 2: flush (R104, R105) -/

/-- A record as a flush retires it. -/
def Segment.flushed (g : Segment) (tripSeen configured : Bool) : Segment :=
  (g.addIf tripSeen .break_).addIf configured .config

/-- The track a flush leaves (R105). -/
def TrackRec.emptied (t : TrackRec) : TrackRec := { t with anchored := false, records := [] }

/-! ### Part 3: admission (R106 to R109) -/

/-- The class of a segment admitted under this INK_COVERAGE entry (R106). -/
def coverageClass : Sample → Nat
  | .valid v => (clamp v 0 3).toNat
  | .invalid | .absent => 0

/-- The reasons a segment is admitted with (R106). -/
def admissionReasons (dryer : DryerState) (splice : Sample) : List WasteReason :=
  (if dryer = .run then [] else [.start]) ++ (if splice.asserted then [.splice] else [])

/-- One segment appended at the tail (R106). -/
def TrackRec.admitOne (t : TrackRec) (mark : BitVec 32) (cls : Nat) (reasons : List WasteReason) : TrackRec :=
  { t with
    records := t.records ++ [⟨t.nextSeq, mark, cls, 0, reasons, none, none, false⟩]
    nextSeq := t.nextSeq + 1 }

/-- The segments due while anchored, at most `fuel` of them (R109; capacity R108). -/
def TrackRec.admitDue (cls : Nat) (reasons : List WasteReason) (length : Nat) : Nat → TrackRec → TrackRec
  | 0, t => t
  | fuel + 1, t =>
    if (t.odometer - t.nextMark).toNat < 2 ^ 31 ∧ t.records.length < 128 then
      TrackRec.admitDue cls reasons length fuel
        { t.admitOne t.nextMark cls reasons with nextMark := t.nextMark + BitVec.ofNat 32 length }
    else t

/-- Part 3: `t` is the track after part 1, which advanced the odometer by `mm`. -/
def TrackRec.admission (t : TrackRec) (mm cls : Nat) (reasons : List WasteReason) (length : Nat) : TrackRec :=
  if t.anchored then t.admitDue cls reasons length 4
  else if 1 ≤ mm ∧ t.records.length < 128 then
    { t.admitOne t.odometer cls reasons with
      anchored := true
      nextMark := t.odometer + BitVec.ofNat 32 length }
  else t

/-! ### Part 4: zone presence and dose (R110, R111) -/

/-- The zone a midpoint lies in, if any (R110). -/
def Commissioning.zoneAt (c : Commissioning) (mid : Int) : Option Nat :=
  c.activeZones.find? fun z => decide ((c.zoneStart z : Int) ≤ mid) && decide (mid < (c.zoneEnd z : Int))

/-- The dose air of a zone (R86): this computation's AIR in FIRING and LIMITED, the last valid AIR in HOLDING, none
in OFF, BLOCKED and FAULT. -/
def doseAir (r : ZoneRec) (air : Sample) : Option Int :=
  match r.state with
  | .firing | .limited =>
    match air with
    | .valid a => some a
    | .invalid | .absent => some r.lastAir
  | .holding => some r.lastAir
  | .off | .blocked | .fault => none

/-- 4,000,000,000 m°C·s, where the dose saturates (R111). -/
def doseMaximum : Nat := 4000000000

/-- The dose a zone with this air adds in one computation (R111). -/
def doseStep (c : Commissioning) (air : Int) : Nat :=
  (trunc (max 0 (air - c.doseReference) * c.period) 10000).toNat

/-- Part 4 for one record (R110). -/
def Segment.exposed (g : Segment) (s : State) (odometer : BitVec 32) : Segment :=
  let c := s.svc.active.comm
  match c.zoneAt (g.midpoint odometer c.segmentLength) with
  | none => g
  | some z =>
    match doseAir (s.engine.zone z) (s.engine.samples.air z) with
    | some a => { g with dose := min (g.dose + doseStep c a) doseMaximum }
    | none => g.addReason .zone

/-! ### Part 5: crossings and retirement (R112 to R115) -/

/-- The crossing of `position` falls in this computation: the midpoint has reached it, and was below it before the
advance of `mm`, or had no value before (R112). -/
def crossesNow (mid : Int) (mm : Nat) (fresh : Bool) (position : Nat) : Bool :=
  decide ((position : Int) ≤ mid) && (fresh || decide (mid - mm < position))

/-- The dryer end crossing (R113). -/
def Segment.takeDryerEnd (g : Segment) (r : Recipe) : Segment :=
  { (g.addIf (g.dose < r.doseMin g.cls) .underdose).addIf (r.doseMax g.cls < g.dose) .overdose with judged := true }

/-- The exit pyrometer crossing (R114); `mapped` says whether CELL_MAP names EXIT_WEB_TEMP. -/
def Segment.takeExit (g : Segment) (r : Recipe) (mapped : Bool) (sample : Sample) : Segment :=
  if mapped then
    match sample with
    | .valid x =>
      { g with exitTemp := some x }.addIf (decide (x < (r.exitLow g.cls : Int)) || decide ((r.exitHigh g.cls : Int) < x))
        .exitTemp
    | .invalid | .absent => g.addReason .unmeasured
  else g

/-- The chill exit crossing (R115), before the verdict. -/
def Segment.takeChillExit (g : Segment) (r : Recipe) (mapped : Bool) (sample : Sample) : Segment :=
  if mapped then
    match sample with
    | .valid x => { g with chillTemp := some x }.addIf (decide ((r.chillExitMax g.cls : Int) < x)) .chillHot
    | .invalid | .absent => g.addReason .unmeasured
  else g

/-- The crossings of one record in position order; the Bool says that the chill exit was among them, so that the
record is retired (R112, R115). -/
def Segment.crossed (g : Segment) (s : State) (odometer : BitVec 32) (mm : Nat) (fresh : Bool) : Segment × Bool :=
  let c := s.svc.active.comm
  let mid := g.midpoint odometer c.segmentLength
  let g1 := if crossesNow mid mm fresh c.dryerEnd then g.takeDryerEnd s.svc.active.recipe else g
  let g2 := if crossesNow mid mm fresh c.exitPosition then
      g1.takeExit s.svc.active.recipe (c.cellOf 13).isSome s.engine.samples.exitWebTemp else g1
  if crossesNow mid mm fresh c.chillExit then
    (g2.takeChillExit s.svc.active.recipe (c.cellOf 16).isSome s.engine.samples.chillExit, true)
  else (g2, false)

/-- Parts 4 and 5 for every record, head first; the first `old` records stood in the track before this
computation's admissions. -/
def State.travelled (s : State) (t : TrackRec) (mm old : Nat) : List (Segment × Bool) :=
  (t.records.take old).map (fun g => (g.exposed s t.odometer).crossed s t.odometer mm false)
    ++ (t.records.drop old).map (fun g => (g.exposed s t.odometer).crossed s t.odometer mm true)

/-- What stage 5 leaves: the track, its counters and the computation's retirements in head order (R120). -/
structure TrackResult where
  track    : TrackRec
  counters : TrackCounters
  retired  : List Segment
deriving DecidableEq, Repr

/-- The stage where a flush condition holds (R105). -/
def State.flushResult (s : State) (t : TrackRec) (tripSeen configured : Bool) : TrackResult :=
  let gone := t.records.map fun g => g.flushed tripSeen configured
  ⟨t.emptied, s.engine.counters.retireAll gone, gone⟩

/-- The stage where none holds: `t` is the track after part 1, which advanced it by `mm` (R103 items 3 to 5). -/
def State.runResult (s : State) (t : TrackRec) (mm : Nat) : TrackResult :=
  let c := s.svc.active.comm
  let t1 := t.admission mm (coverageClass s.engine.samples.inkCoverage)
    (admissionReasons s.engine.dryer.state s.engine.samples.splice) c.segmentLength
  let moved := s.travelled t1 mm t.records.length
  let gone := (moved.filter (·.2)).map (·.1)
  let k := { s.engine.counters with
    admitted := s.engine.counters.admitted + BitVec.ofNat 32 (t1.records.length - t.records.length) }
  ⟨{ t1 with records := (moved.filter (!·.2)).map (·.1) }, k.retireAll gone, gone⟩

/-- A trip flushes the track: the latch or the flush mark is set (R104). -/
def State.tripFlush (s : State) : Bool := s.trip.latch || s.trip.flushMark

/-- Configuration flushes the track: stage 2 read CONFIG, or the capture activated the commissioning tables
(R104). -/
def Computation.configFlush (c : Computation) : Bool := c.node == .config || c.activated

/-- The result of stage 5 for the computation `c` (R103). -/
def State.trackResult (s : State) (c : Computation) : TrackResult :=
  let period := s.svc.active.comm.period
  let t := s.engine.track.advanced s.engine.speed.v period
  if s.tripFlush || c.configFlush then s.flushResult t s.tripFlush c.configFlush
  else s.runResult t (s.engine.track.advanceBy s.engine.speed.v period)

/-- Stage 5 takes place for the computation in flight; its read clears the flush mark (R104). -/
def takeTrackStage (c : Computation) (s : State) : State :=
  let out := s.trackResult c
  { s with
    engine := { s.engine with
      track := out.track
      counters := out.counters
      flight := some { c with stage := .chill, retired := out.retired } }
    trip := { s.trip with flushMark := false } }

/-- TRACK_STAGE (R103). -/
def execTrackStage (s : State) : Host.Outcome State Fault Refusal :=
  .next (s.atStage .track fun c => takeTrackStage c s)

end Sys2Proof.Machine
end

