-- ==== Sys2Proof/Machine/Chill.lean ====
section
/-!
DEFINITION. Stage 6, the chill stand (R122 to R136).
-/
namespace Sys2Proof.Machine

/-- What stage 6 reads beside its record: the active tables, the node state as stage 2 read it, the dryer state, v,
v_s, the track as stage 5 left it, and two entries of the sample set. -/
structure ChillInputs where
  tables : Tables
  node   : NodeState
  dryer  : DryerState
  v      : Nat
  vs     : Nat
  track  : TrackRec
  exit   : Sample
  supply : Sample
deriving DecidableEq, Repr

/-- The stand state (R124, Table 8.2), the node state as stage 2 read it. Where ENTER_CONFIG and LEAVE_CONFIG are both served
between two stage 2 reads no computation reads CONFIG, and a roll that the activated GEOMETRY adds starts in the state that
Table 8.2 then gives, not from the idle valve of R122's closing words: the model's choice (assumption 40). -/
def ChillInputs.stand (i : ChillInputs) : StandState :=
  if i.node = .config then .idle
  else if i.dryer = .purge then .still
  else if i.v < i.tables.comm.creep then if i.dryer.heated then .still else .idle
  else .tracking

/-- CHILL_EXIT_WEB_TEMP is mapped in the active CELL_MAP. -/
def ChillInputs.exitMapped (i : ChillInputs) : Bool := (i.tables.comm.cellOf 16).isSome

/-- The chill sensor hold timer after its update (R130, Table 8.3). -/
def ChillRec.heldFor (r : ChillRec) (i : ChillInputs) : Nat :=
  if i.exitMapped && i.stand == .tracking then holdStep r.hold i.exit i.tables.comm.period else 0

/-- The exit fault finding (R130, Table 8.3). -/
def ChillRec.exitFaultFound (r : ChillRec) (i : ChillInputs) : Bool :=
  i.exitMapped && i.stand == .tracking && !i.exit.isValid && decide (i.tables.comm.sensorHold < r.heldFor i)

/-- The supply finding (R133). -/
def ChillRec.supplyFound (r : ChillRec) (i : ChillInputs) : Bool :=
  match i.supply with
  | .valid x => (i.tables.comm.chillSupplyMax : Int) < x
  | .invalid | .absent => r.supply

/-- The error e_c in m°C (R131 item 1). -/
def chillError (r : Recipe) (x : Int) : Int := clamp ((x - r.chillTarget) * 100) (-100000) 100000

/-- The reading the trim is formed from: a VALID entry of a mapped channel (R131, R132). -/
def ChillInputs.reading (i : ChillInputs) : Option Int :=
  match i.exit with
  | .valid x => if i.exitMapped then some x else none
  | .invalid | .absent => none

/-- The unclamped trim u_c: without a reading its proportional term is 0 (R131 item 2, R132). -/
def ChillRec.rawTrim (r : ChillRec) (i : ChillInputs) : Int :=
  match i.reading with
  | some x => trunc ((i.tables.comm.chillKp : Int) * chillError i.tables.recipe x) 1000 + trunc r.integ 10000
  | none => trunc r.integ 10000

/-- The trim in 0.01 % (R131 item 3, R132). -/
def ChillRec.trim (r : ChillRec) (i : ChillInputs) : Int :=
  clamp (r.rawTrim i) (-(i.tables.comm.trimLimit : Int)) i.tables.comm.trimLimit

/-- The integrator step ΔI_c (R131 item 4). -/
def chillStep (t : Tables) (x : Int) : Int :=
  trunc ((t.comm.chillKi : Int) * chillError t.recipe x * t.comm.period) 100000

/-- I_c in TRACKING: frozen without a reading (R132), guarded by the trim limit (R131 item 4). -/
def ChillRec.tracked (r : ChillRec) (i : ChillInputs) : Int :=
  match i.reading with
  | none => r.integ
  | some x =>
    let d := chillStep i.tables x
    let limit : Int := i.tables.comm.trimLimit
    if (limit < r.rawTrim i ∧ 0 < d) ∨ (r.rawTrim i < -limit ∧ d < 0) then r.integ
    else clamp (r.integ + d) (-100000000) 100000000

/-- I_c after the stage (R125, R126, R131). It is emptied in IDLE alone: where ENTER_CONFIG and LEAVE_CONFIG are both served
between two stage 2 reads a new CHILL_TUNING can start on an I_c that is not 0, against R135's closing words: the model's
choice (assumption 39). -/
def ChillRec.integNext (r : ChillRec) (i : ChillInputs) : Int :=
  match i.stand with
  | .idle => 0
  | .still => r.integ
  | .tracking => r.tracked i

/-- The chill stand record after stage 6. -/
def ChillRec.step (r : ChillRec) (i : ChillInputs) : ChillRec where
  stand := i.stand
  integ := r.integNext i
  hold := r.heldFor i
  exitFault := r.exitFaultFound i
  supply := r.supplyFound i

/-- Roll `roll`'s look point, a signed number (R128). -/
def ChillInputs.lookPoint (i : ChillInputs) (roll : Nat) : Int :=
  (i.tables.comm.rollContact roll : Int) - i.tables.recipe.lookLead

/-- The record whose span contains a point: p − L ≤ point < p (R128). -/
def TrackRec.recordAt (t : TrackRec) (length : Nat) (point : Int) : Option Segment :=
  t.records.find? fun g =>
    decide ((g.position t.odometer : Int) - length ≤ point) && decide (point < (g.position t.odometer : Int))

/-- The feed-forward of a roll in 0.01 % (R129). -/
def ChillInputs.feedForward (i : ChillInputs) (roll : Nat) : Int :=
  match (i.track.recordAt i.tables.comm.segmentLength (i.lookPoint roll)).bind (·.exitTemp) with
  | none => 0
  | some x => trunc ((i.tables.recipe.feedGain : Int) * (x - i.tables.recipe.nominalExit)) 10

/-- CHILL_VALVE[r] in 0.01 % of an active roll (R125, R126, R127). -/
def ChillRec.valve (r : ChillRec) (i : ChillInputs) (roll : Nat) : Int :=
  match i.stand with
  | .idle => i.tables.comm.idleValve
  | .still => i.tables.comm.holdValve roll
  | .tracking =>
    clamp (curveValue (i.tables.recipe.rollCurve roll) i.vs + i.feedForward roll + r.trim i)
      (i.tables.comm.valveMin roll) 10000

/-- What stage 6 reads in the computation `c`. -/
def State.chillInputs (s : State) (c : Computation) : ChillInputs where
  tables := s.svc.active
  node := c.node
  dryer := s.engine.dryer.state
  v := s.engine.speed.v
  vs := s.engine.speed.vs
  track := s.engine.track
  exit := s.engine.samples.chillExit
  supply := s.engine.samples.chillSupply

/-- CHILL_VALVE[r] of each active roll in the working output set; stage 7 forms the others (R39). -/
def State.chillValves (s : State) (c : Computation) : List Int :=
  tabulate 8 fun roll =>
    if s.svc.active.comm.rollActive roll then s.engine.chill.valve (s.chillInputs c) roll
    else s.engine.working.valve.getD roll 0

/-- The engine after stage 6. -/
def State.chillEngine (s : State) (c : Computation) : Engine :=
  { s.engine with
    chill := s.engine.chill.step (s.chillInputs c)
    working := { s.engine.working with valve := s.chillValves c }
    flight := some { c with stage := .report } }

/-- Stage 6 takes place for the computation in flight (R123). -/
def takeChillStage (c : Computation) (s : State) : State :=
  State.latchIf
    ((s.engine.chill.step (s.chillInputs c)).exitFault || (s.engine.chill.step (s.chillInputs c)).supply) .chillFault
    { s with engine := s.chillEngine c }

/-- CHILL_STAGE (R123). -/
def execChillStage (s : State) : Host.Outcome State Fault Refusal :=
  .next (s.atStage .chill fun c => takeChillStage c s)

/-- CHILL_SENSOR_HOLD_RUN_OUT (R130): stage 6 of a computation in which the chill sensor hold has run out while
TRACKING (assumption 9). -/
def execChillSensorHoldRunOut (s : State) : Host.Outcome State Fault Refusal :=
  .next (s.atStage .chill fun c =>
    if s.engine.chill.exitFaultFound (s.chillInputs c) then takeChillStage c s else s)

end Sys2Proof.Machine
end

