-- ==== Sys2Proof/Machine/Dryer.lean ====
section
/-!
DEFINITION. Stage 2, the dryer step (R43 to R66).
-/
namespace Sys2Proof.Machine

/-- The step latches MODE_INVALID: MODE_REQUEST VALID with a value that is none of 0, 1 and 2 (Table 4.2). -/
def modeOutOfRange : Sample → Bool
  | .valid v => v != 0 && v != 1 && v != 2
  | .invalid | .absent => false

/-- The held request as MODE_REQUEST leaves it (Table 4.2). -/
def takeRequest (sample : Sample) (held : ModeRequest) : ModeRequest :=
  match sample with
  | .valid v => if v = 0 then .off else if v = 1 then .heat else if v = 2 then .produce else held
  | .invalid | .absent => held

/-- The mode request taken (R44); the retry block clears where the held request is now OFF (R51). -/
def DryerRec.takeMode (d : DryerRec) (sample : Sample) : DryerRec :=
  { d with
    held := takeRequest sample d.held
    modeFinding := if sample.isValid then modeOutOfRange sample else d.modeFinding
    retryBlock := d.retryBlock && takeRequest sample d.held != .off }

/-- What the step reads in its item 3 (R45). -/
structure DryerInputs where
  node     : NodeState
  seen     : Bool
  permit   : Bool
  complete : Bool
  v        : Nat
  inBand   : Bool
  cool     : Bool
  comm     : Commissioning
deriving DecidableEq, Repr

/-- A zone is cool when its AIR_TEMP is VALID and below the cool limit (R58). -/
def zoneCool (c : Commissioning) : Sample → Bool
  | .valid a => a < c.coolLimit
  | .invalid | .absent => false

/-- The readings of item 3 of the step: `permit` is the level of HEAT_PERMIT (R64); a trip is seen when the latch
or the trip mark is set (R46). -/
def State.dryerInputs (s : State) (permit : Bool) : DryerInputs where
  node := s.svc.node
  seen := s.trip.latch || s.trip.tripMark
  permit := permit
  complete := s.svc.active.recipeComplete
  v := s.engine.speed.v
  inBand := s.svc.active.comm.activeZones.all fun z => (s.engine.zone z).inBand
  cool := s.svc.active.comm.activeZones.all fun z => zoneCool s.svc.active.comm (s.engine.samples.air z)
  comm := s.svc.active.comm

/-- The five timers updated by their conditions, tested against the starting state (R48, Table 4.4). -/
def DryerRec.runTimers (d : DryerRec) (i : DryerInputs) : DryerRec :=
  { d with
    permitTimer := durationStep d.permitTimer (d.state == .preheat && !i.permit) i.comm.period
    settleTimer := durationStep d.settleTimer (d.state == .preheat && i.permit && i.inBand) i.comm.period
    runConfirm := durationStep d.runConfirm
      ((d.state == .ready || d.state == .hold) && d.held == .produce && i.complete && i.permit
        && decide (i.comm.runThreshold ≤ i.v)) i.comm.period
    holdDelay := durationStep d.holdDelay (d.state == .run && decide (i.v < i.comm.creep)) i.comm.period
    holdLimit := durationStep d.holdLimit (d.state == .hold) i.comm.period }

/-- The rows of Table 4.3, each named by what it does; `stays` is "if no row holds". -/
inductive Transition where
  | configured     -- row 1
  | tripped        -- row 2
  | tripHeld       -- row 3
  | purged         -- row 4
  | started        -- row 5
  | requestOff     -- row 6
  | permitLost     -- row 7
  | permitTimedOut -- row 8
  | settled        -- row 9
  | recipeGone     -- row 10
  | requestHeat    -- row 11
  | belowCreep     -- row 12
  | confirmed      -- row 13
  | holdLimited    -- row 14
  | reheated       -- row 15
  | cooled         -- row 16
  | stays
deriving DecidableEq, Repr

/-- The first row of Table 4.3 whose starting state and condition hold (R47). `d` holds the starting state, the
request of this step and the timers as item 4 left them. -/
def DryerRec.transition (d : DryerRec) (i : DryerInputs) : Transition :=
  if i.node = .config then .configured
  else if i.seen then if d.state = .cold ∨ d.state = .purge then .tripHeld else .tripped
  else
    match d.state with
    | .purge => .purged
    | .cold => if d.held ≠ .off ∧ d.retryBlock = false then .started else .stays
    | .preheat =>
      if d.held = .off then .requestOff
      else if reached d.permitTimer i.comm.permitTimeout then .permitTimedOut
      else if reached d.settleTimer i.comm.settle then .settled
      else .stays
    | .ready =>
      if d.held = .off then .requestOff
      else if i.permit = false then .permitLost
      else if reached d.runConfirm i.comm.runConfirm then .confirmed
      else .stays
    | .run =>
      if d.held = .off then .requestOff
      else if i.permit = false then .permitLost
      else if d.held = .produce ∧ i.complete = false then .recipeGone
      else if d.held = .heat then .requestHeat
      else if reached d.holdDelay i.comm.holdDelay then .belowCreep
      else .stays
    | .hold =>
      if d.held = .off then .requestOff
      else if i.permit = false then .permitLost
      else if reached d.runConfirm i.comm.runConfirm then .confirmed
      else if i.comm.holdLimit ≠ 0 ∧ reached d.holdLimit i.comm.holdLimit = true then .holdLimited
      else .stays
    | .cooldown =>
      if d.held ≠ .off then .reheated
      else if i.cool then .cooled
      else .stays

/-- The new state of a row (Table 4.3). -/
def Transition.target (t : Transition) (start : DryerState) : DryerState :=
  match t with
  | .configured | .purged | .permitTimedOut | .cooled => .cold
  | .tripped => .purge
  | .tripHeld | .stays => start
  | .started | .permitLost | .reheated => .preheat
  | .requestOff => .cooldown
  | .settled | .holdLimited => .ready
  | .recipeGone | .requestHeat | .belowCreep => .hold
  | .confirmed => .run

/-- The flag a row latches (Table 4.3). -/
def Transition.flag : Transition → Option Flag
  | .permitLost => some .permitLost
  | .permitTimedOut => some .permitTimeout
  | .recipeGone => some .recipeMissing
  | _ => none

/-- The recipe finding: READY or HOLD, request PRODUCE and the recipe incomplete at the step's end (R62). -/
def recipeFound (state : DryerState) (held : ModeRequest) (complete : Bool) : Bool :=
  (state == .ready || state == .hold) && held == .produce && !complete

/-- The dryer record after items 2 to 6 of the step, and the row taken (R45). -/
def DryerRec.step (d : DryerRec) (request : Sample) (i : DryerInputs) : DryerRec × Transition :=
  let d' := (d.takeMode request).runTimers i
  let t := d'.transition i
  ({ d' with
      state := t.target d'.state
      retryBlock := d'.retryBlock || t == .permitTimedOut
      recipeFinding := recipeFound (t.target d'.state) d'.held i.complete }, t)

/-- Item 1 of the step: the break-cell finding (R155) and the trip it sends. -/
def takeBreakCell (s : State) : State :=
  State.tripIf s.engine.samples.breakCell.asserted .breakCell
    { s with trip := { s.trip with breakCell := s.engine.samples.breakCell.asserted } }

/-- The dryer record and the row that the step with this permit gives, from the state as it stands before the
step. -/
def State.dryerOutcome (s : State) (permit : Bool) : DryerRec × Transition :=
  s.engine.dryer.step s.engine.samples.modeRequest ((takeBreakCell s).dryerInputs permit)

/-- Stage 2 takes place for the computation in flight (R45): the read of the trip mark clears it (R46), and
HEAT_REQUEST is formed anew (R63). -/
def takeDryerStep (c : Computation) (permit : Bool) (s : State) : State :=
  let out := s.dryerOutcome permit
  let s1 := takeBreakCell s
  let s2 : State :=
    { s1 with
      engine := { s1.engine with
        dryer := out.1
        flight := some { c with stage := .zones, node := s1.svc.node, permit := permit } }
      trip := { s1.trip with tripMark := false } }
  let s3 := State.latchIf (modeOutOfRange s.engine.samples.modeRequest) .modeInvalid s2
  let s4 := match out.2.flag with
    | none => s3
    | some f => State.latchFlag f s3
  (State.latchIf out.1.recipeFinding .recipeMissing s4).formHeat

/-- The dryer step of the computation in flight, where the row it takes is `row` (assumption 9). -/
def dryerStepOf (row : Transition) (permit : Bool) (time : Nat) (s : State) : State :=
  s.atStage .dryer fun c =>
    if ((s.advanceTo time).dryerOutcome permit).2 = row then takeDryerStep c permit (s.advanceTo time) else s

/-- DRYER_STEP (R45). -/
def execDryerStep (time : Nat) (permit : Bool) (s : State) : Host.Outcome State Fault Refusal :=
  .next (s.atStage .dryer fun c => takeDryerStep c permit (s.advanceTo time))

/-- PERMIT_TIMER_REACHED (R51): the step in which the permit, still absent, times out (row 8). -/
def execPermitTimerReached (time : Nat) (s : State) : Host.Outcome State Fault Refusal :=
  .next (dryerStepOf .permitTimedOut false time s)

/-- SETTLE_TIMER_REACHED (R50): the step, the permit present, in which the settle timer is reached (row 9). -/
def execSettleTimerReached (time : Nat) (s : State) : Host.Outcome State Fault Refusal :=
  .next (dryerStepOf .settled true time s)

/-- RUN_CONFIRM_REACHED (R53): the step, the permit present, in which the run confirm timer is reached (row 13). -/
def execRunConfirmReached (time : Nat) (s : State) : Host.Outcome State Fault Refusal :=
  .next (dryerStepOf .confirmed true time s)

/-- HOLD_DELAY_REACHED (R54 item 6): the step, the permit present, in which the hold delay is reached (row 12). -/
def execHoldDelayReached (time : Nat) (s : State) : Host.Outcome State Fault Refusal :=
  .next (dryerStepOf .belowCreep true time s)

/-- HOLD_LIMIT_REACHED (R55): the step, the permit present, in which the hold limit is reached (row 14). -/
def execHoldLimitReached (time : Nat) (s : State) : Host.Outcome State Fault Refusal :=
  .next (dryerStepOf .holdLimited true time s)

end Sys2Proof.Machine
end

