-- ==== Sys2Proof/Machine/Exhaust.lean ====
section
/-!
DEFINITION. Stage 4, exhaust and solvent load (R90 to R98).
-/
namespace Sys2Proof.Machine

/-- What stage 4 reads beside its record: the active tables, the dryer state, v_s and the LEL entry. -/
structure ExhaustInputs where
  tables : Tables
  dryer  : DryerState
  vs     : Nat
  lel    : Sample
deriving DecidableEq, Repr

/-- The LEL hold timer after its update: held at 0 outside the heated states (R91 item 1). -/
def ExhaustRec.heldFor (r : ExhaustRec) (i : ExhaustInputs) : Nat :=
  if i.dryer.heated then holdStep r.hold i.lel i.tables.comm.period else 0

/-- The last valid LEL (R91 item 1). -/
def ExhaustRec.level' (r : ExhaustRec) (i : ExhaustInputs) : Int :=
  match i.lel with
  | .valid x => x
  | .invalid | .absent => r.lastLel

/-- The exhaust record after stage 4 (R91 items 1 and 2, R95). -/
def ExhaustRec.step (r : ExhaustRec) (i : ExhaustInputs) : ExhaustRec where
  lastLel := r.level' i
  hold := r.heldFor i
  alarm := (i.tables.comm.lelAlarm : Int) < r.level' i
  level := (i.tables.comm.lelTrip : Int) ≤ r.level' i

/-- The LEL hold has run out while the dryer is heated (R96). -/
def ExhaustRec.holdOut (r : ExhaustRec) (i : ExhaustInputs) : Bool :=
  i.dryer.heated && !i.lel.isValid && i.tables.comm.lelHold < r.heldFor i

/-- A valid reading at or above the trip level (R95). -/
def ExhaustInputs.levelTrips (i : ExhaustInputs) : Bool :=
  match i.lel with
  | .valid x => (i.tables.comm.lelTrip : Int) ≤ x
  | .invalid | .absent => false

/-- The LEL trim T_L in 0.01 % at solvent level λ (R94). -/
def lelTrim (c : Commissioning) (level : Int) : Int :=
  if (c.lelAlarm : Int) < level then trunc ((c.lelGain : Int) * (level - c.lelAlarm)) 10 else 0

/-- EXHAUST in 0.01 % (R92, R93). -/
def ExhaustRec.damper (r : ExhaustRec) (i : ExhaustInputs) : Int :=
  let c := i.tables.comm
  match i.dryer with
  | .cold => 0
  | .preheat | .ready | .hold => clamp c.standbyExhaust c.exhaustMin 10000
  | .run =>
    if r.holdOut i then 10000
    else clamp (curveValue i.tables.recipe.damperCurve i.vs + lelTrim c (r.level' i)) c.exhaustMin 10000
  | .purge => 10000
  | .cooldown => c.exhaustMin

/-- What stage 4 reads. -/
def State.exhaustInputs (s : State) : ExhaustInputs where
  tables := s.svc.active
  dryer := s.engine.dryer.state
  vs := s.engine.speed.vs
  lel := s.engine.samples.lel

/-- The engine after stage 4. -/
def State.exhaustEngine (s : State) (c : Computation) : Engine :=
  { s.engine with
    exhaust := s.engine.exhaust.step s.exhaustInputs
    working := { s.engine.working with exhaust := s.engine.exhaust.damper s.exhaustInputs }
    flight := some { c with stage := .track } }

/-- Stage 4 takes place for the computation in flight (R91). -/
def takeExhaustStage (c : Computation) (s : State) : State :=
  let s1 := { s with engine := s.exhaustEngine c }
  let s2 := State.latchIf (s.engine.exhaust.step s.exhaustInputs).alarm .lelAlarm s1
  State.tripIf (s.exhaustInputs.levelTrips || s.engine.exhaust.holdOut s.exhaustInputs) .lel s2

/-- EXHAUST_STAGE (R91). -/
def execExhaustStage (time : Nat) (s : State) : Host.Outcome State Fault Refusal :=
  .next (s.atStage .exhaust fun c => takeExhaustStage c (s.advanceTo time))

/-- LEL_HOLD_RUN_OUT (R96): stage 4 of a computation in which the LEL hold has run out with the dryer heated
(assumption 9). -/
def execLelHoldRunOut (time : Nat) (s : State) : Host.Outcome State Fault Refusal :=
  .next (s.atStage .exhaust fun c =>
    if s.engine.exhaust.holdOut s.exhaustInputs then takeExhaustStage c (s.advanceTo time) else s)

end Sys2Proof.Machine
end

