-- ==== Sys2Proof/Machine/Supervisor.lean ====
section
/-!
DEFINITION. The Cycle Supervisor: verdicts and findings (R16 to R21), its update at a capture (R22), warning and loss
(R23, R24).
-/
namespace Sys2Proof.Machine

/-- The verdicts of Table 2.3: `anchoring` is UNANCHORED with no computation in flight; `overrun` is row 4, and row 1
with one in flight. -/
inductive Verdict where
  | anchoring | early | duplicate | overrun | capture
deriving DecidableEq, Repr

/-- The verdict on an arrival with number `n` at local time `time` (R16, R17 to R20). -/
def Supervisor.verdict (p : Supervisor) (c : Commissioning) (inFlight : Bool) (n : BitVec 32) (time : Nat) : Verdict :=
  if p.anchored = false then if inFlight then .overrun else .anchoring
  else if time - p.lastTime < c.earlyLimit then .early
  else if n = p.lastNumber then .duplicate
  else if inFlight then .overrun
  else .capture

/-- A verdict that captures the frame. -/
def Verdict.captures : Verdict → Bool
  | .anchoring | .capture => true
  | .early | .duplicate | .overrun => false

/-- The flag that a verdict latches of itself (R17 to R20). -/
def Verdict.flag : Verdict → Option Flag
  | .early => some .cycleIrregular
  | .overrun => some .overrun
  | .anchoring | .duplicate | .capture => none

/-- The GAP finding (R21): only on a frame whose verdict is CAPTURE. -/
def Supervisor.gap (p : Supervisor) (v : Verdict) (n : BitVec 32) : Bool :=
  v == .capture && n != p.lastNumber + 1

/-- The LATE finding (R21): only on a frame whose verdict is CAPTURE. -/
def Supervisor.late (p : Supervisor) (c : Commissioning) (v : Verdict) (time : Nat) : Bool :=
  v == .capture && decide (c.lateLimit < time - p.lastTime)

/-- The Supervisor after a capture (R22), `c` being the tables active after step 1 of R7. -/
def Supervisor.captured (p : Supervisor) (c : Commissioning) (late : Bool) (n : BitVec 32) (time : Nat) : Supervisor where
  anchored := true
  lastNumber := n
  lastTime := time
  warnTimer := some c.warnTime
  lossTimer := some c.lossTime
  linkWarn := false
  lateCount := if late then p.lateCount + 1 else p.lateCount

/-- The warn timer has expired (R23). -/
def takeWarnExpiry (s : State) : State :=
  State.latchFlag .linkWarn { s with sup := { s.sup with warnTimer := none, linkWarn := true } }

/-- WARN_EXPIRY (R23). A warn timer that is stopped or has time left does not expire (assumption 7). -/
def execWarnExpiry (time : Nat) (s : State) : Host.Outcome State Fault Refusal :=
  .next (if timerDue (s.advanceTo time).sup.warnTimer then takeWarnExpiry (s.advanceTo time) else s)

/-- The loss timer has expired (R24). -/
def takeLossExpiry (s : State) : State :=
  State.tripArrives .link { s with sup := { s.sup with anchored := false, warnTimer := none, lossTimer := none } }

/-- LOSS_EXPIRY (R24). A loss timer that is stopped or has time left does not expire (assumption 7). -/
def execLossExpiry (time : Nat) (s : State) : Host.Outcome State Fault Refusal :=
  .next (if timerDue (s.advanceTo time).sup.lossTimer then takeLossExpiry (s.advanceTo time) else s)

end Sys2Proof.Machine
end

