-- ==== Sys2Proof/Machine/Capture.lean ====
section
/-!
DEFINITION. The capture (R7, R8, R22, R145): everything pending is applied, the inputs are taken, and a computation
begins.
-/
namespace Sys2Proof.Machine

/-! ### Step 1 of R7: activations -/

/-- The recipe after the activations that are pending. -/
def PendingSet.recipe (p : PendingSet) (active shadow : Recipe) : Recipe where
  zoneCurves := if p.zoneCurves then shadow.zoneCurves else active.zoneCurves
  exhaustCurve := if p.exhaustCurve then shadow.exhaustCurve else active.exhaustCurve
  chillCurves := if p.chillCurves then shadow.chillCurves else active.chillCurves
  doseWindows := if p.doseWindows then shadow.doseWindows else active.doseWindows

/-- The active copies after the activations that are pending (R7 step 1, R165). -/
def Handler.activated (h : Handler) : Tables where
  comm := if h.pendingSet.comm then h.shadow.comm else h.active.comm
  recipe := h.pendingSet.recipe h.active.recipe h.shadow.recipe

/-- The Service Handler after a capture's activations, node state change and emptying (R7 steps 1, 2 and 4); an applied
commissioning activation ends "defaults active" (R178). -/
def Handler.atCapture (h : Handler) : Handler :=
  { h with
    active := h.activated
    node := if h.pendingSet.comm then .operate else h.node
    defaultsActive := h.defaultsActive && !h.pendingSet.comm
    pendingSet := .empty
    clearPending := false }

/-! ### Step 3 of R7: a pending counter clear (R145, R14) -/

/-- The track counters after a clear: admitted is the present occupancy. -/
def TrackCounters.cleared (occupancy : Nat) : TrackCounters :=
  { TrackCounters.reset with admitted := BitVec.ofNat 32 occupancy }

/-- A pending counter clear is carried out. -/
def State.clearCountersNow (s : State) : State :=
  { s with
    port := { s.port with fcsFailed := 0, malformed := 0 }
    sup := { s.sup with lateCount := 0 }
    engine := { s.engine with counters := .cleared s.engine.track.records.length } }

/-- The pending items applied, in the order of R7; HEAT_REQUEST follows the node state (R63). -/
def State.applyPending (s : State) : State :=
  let s1 := if s.svc.clearPending then s.clearCountersNow else s
  { s1 with svc := s.svc.atCapture }.formHeat

/-! ### The input cells (R8) -/

/-- A cell's sample: GOOD and HELD are valid, every other quality code is not. -/
def Cell.sample (c : Cell) : Sample :=
  if c.quality = 1 ∨ c.quality = 2 then .valid (signedCell c.value) else .invalid

/-- The sample set entry of an input channel (R8). -/
def channelSample (c : Commissioning) (cells : List Cell) (channel : Nat) : Sample :=
  match c.cellOf channel with
  | none => .absent
  | some i =>
    match cells[i]? with
    | none => .absent
    | some cell => cell.sample

/-- The sample set formed from one frame (R8), by the input codes of Table 12.3. -/
def sampleSet (c : Commissioning) (cells : List Cell) : SampleSet where
  webSpeed := channelSample c cells 1
  speedRef := channelSample c cells 2
  modeRequest := channelSample c cells 3
  inkCoverage := channelSample c cells 4
  splice := channelSample c cells 5
  breakCell := channelSample c cells 6
  airTemp := tabulate 6 fun z => channelSample c cells (7 + z)
  exitWebTemp := channelSample c cells 13
  lel := channelSample c cells 14
  chillSupply := channelSample c cells 15
  chillExit := channelSample c cells 16

/-! ### The capture and the arrival -/

/-- The computation that a capture begins (R26). -/
def Computation.begun (number : BitVec 32) (activated : Bool) (node : NodeState) : Computation where
  stage := .speed
  number := number
  activated := activated
  node := node
  permit := false
  retired := []

/-- A capture of the CYCLE frame with this number and these cells at local time `time` (R7, R154, R22, R8). -/
def State.capture (s : State) (late : Bool) (number : BitVec 32) (cells : List Cell) (time : Nat) : State :=
  let s1 := s.applyPending
  let s2 := if s.svc.pendingSet.comm then s1.judgeLines else s1
  { s2 with
    sup := s2.sup.captured s2.svc.active.comm late number time
    engine := { s2.engine with
      samples := sampleSet s2.svc.active.comm cells
      flight := some (.begun number s.svc.pendingSet.comm s2.svc.node) } }

/-- The Cycle Supervisor judges an arrival, and the capture is made where it says so (R6 item 1, R16, R21). -/
def State.arrival (s : State) (number : BitVec 32) (cells : List Cell) (time : Nat) : State :=
  let c := s.svc.active.comm
  let v := s.sup.verdict c s.engine.flight.isSome number time
  let s1 := match v.flag with
    | none => s
    | some f => s.latchFlag f
  let s2 := State.latchIf (s.sup.gap v number || s.sup.late c v time) .cycleIrregular s1
  if v.captures then s2.capture (s.sup.late c v time) number cells time else s2

end Sys2Proof.Machine
end

