-- ==== Sys2Proof/Machine/Validate.lean ====
section
/-!
DEFINITION. The checks that COMMIT and LEAVE_CONFIG make on shadow copies (R181, R168, R170). A check answers none
where it passes; the first failure decides.
-/
namespace Sys2Proof.Machine

/-- A failed check: the check code (R181) and the entry index of the reply. -/
structure Failure where
  code  : Nat
  index : Word
deriving DecidableEq, Repr

/-- The check numbers of Table 12.6. -/
inductive Check where
  | range | ascent | doseOrder | exitBand | lossTime | creepOrder | lelOrder | zoneOrder | exitOrder | rollOrder
  | capacity | advance | duplicateCell | duplicateChannel | missingChannel
deriving DecidableEq, Repr

/-- The number of a check (Table 12.6). -/
def Check.number : Check → Nat
  | .range => 1 | .ascent => 2 | .doseOrder => 3 | .exitBand => 4 | .lossTime => 5 | .creepOrder => 6
  | .lelOrder => 7 | .zoneOrder => 8 | .exitOrder => 9 | .rollOrder => 10 | .capacity => 11 | .advance => 12
  | .duplicateCell => 13 | .duplicateChannel => 14 | .missingChannel => 15

/-- The check code of a check of a table: table id × 256 + check number (R181). -/
def Check.code (c : Check) (t : TableId) : Nat := t.code * 256 + c.number

/-- The failure of a check, with the entry index its chapter gives. -/
def Check.failed (c : Check) (t : TableId) (index : Nat) : Failure := ⟨c.code t, BitVec.ofNat 32 index⟩

/-- The failure of a check for which no chapter gives an entry index: a free value (assumption 1). -/
def Check.failedOpen (c : Check) (t : TableId) (item : Nat) : Failure :=
  ⟨c.code t, Config.unstatedEntryIndex t.code c.number item⟩

/-- A check: it passes where `ok` holds. -/
def check (ok : Bool) (f : Failure) : Option Failure := if ok then none else some f

/-- A number lies in a range, both ends included. -/
def within (lo hi x : Nat) : Bool := decide (lo ≤ x) && decide (x ≤ hi)

/-- Word `i` of a table lies in a range. -/
def itemIn (ws : List Word) (i : Nat) (range : Nat × Nat) : Bool := within range.1 range.2 (item ws i)

/-- Each word of a table in the range at its place of `ranges`, in the order of Table 12.5 (assumption 20). -/
def checkRanges (ws : List Word) (ranges : List (Nat × Nat)) (failure : Nat → Failure) : Option Failure :=
  firstSome (ranges.zipIdx.map fun p => check (itemIn ws p.2 p.1) (failure p.2))

/-- The ranges of `n` like items. -/
def repeated (n : Nat) (ranges : List (Nat × Nat)) : List (Nat × Nat) := (List.replicate n ranges).flatten

/-- The checks of the `n` parts of a table (its zones, or its classes), ascending: each part's ranges before its relations,
and each part before the next one (R89, R139, and R168: "in that chapter's order"). R181 has its order of checks from the
chapter too; that its "Range checks come first within each table" yields to the chapter's whole order here is the model's
choice (assumption 19). -/
def partChecks (n : Nat) (ranges relations : Nat → Option Failure) : Option Failure :=
  firstSome (tabulate n fun k => firstSome [ranges k, relations k])

/-! ### NODE (Table 2.2, R170 item 1) -/

/-- The ranges of NODE: station, P, early, late, warn, loss, speed hold, sensor hold. -/
def nodeRanges : List (Nat × Nat) :=
  [(0, 250), (500, 10000), (25, 75), (110, 300), (1, 1000), (2, 2000), (0, 5000), (0, 5000)]

/-- The checks of NODE. -/
def checkNode (ws : List Word) : Option Failure :=
  firstSome
    [ checkRanges ws nodeRanges (Check.range.failedOpen .node),
      check (item ws 4 < item ws 5) (Check.lossTime.failedOpen .node 5) ]

/-! ### LIMITS (Tables 4.6, 5.8, 6.3, 8.5; R65, R97, R160, R170 item 2) -/

/-- The ranges of the nine items of a zone in LIMITS (Table 5.8). -/
def zoneLimitRanges : List (Nat × Nat) :=
  [(500, 4000), (0, 500), (0, 10000), (0, 4000), (0, 4000), (0, 10000), (0, 10000), (0, 10000), (0, 10000)]

/-- The ranges of LIMITS, in the order of Table 12.5. -/
def limitRanges : List (Nat × Nat) :=
  [ (1000, 20000), (50, 2000), (50, 20000), (0, 16), (0, 2000), (300, 1500), (0, 10000), (0, 10000), (10, 600),
    (20, 1000), (0, 1000), (2, 50), (30, 900), (10, 600), (0, 6000), (1, 100), (1, 60), (0, 120), (50, 400) ]
    ++ repeated 6 zoneLimitRanges

/-- The failure of a range check of LIMITS: 64 for chill supply max, item 18 (R135); for every other item no chapter
gives an entry index (assumption 1). -/
def limitsOutOfRange (i : Nat) : Failure :=
  if i = 18 then Check.range.failed .limits 64 else Check.range.failedOpen .limits i

/-- The checks of LIMITS. -/
def checkLimits (ws : List Word) : Option Failure :=
  firstSome
    [ checkRanges ws limitRanges limitsOutOfRange,
      check (item ws 1 ≤ item ws 2) (Check.creepOrder.failedOpen .limits 1),
      check (item ws 2 ≤ item ws 0) (Check.creepOrder.failedOpen .limits 2),
      check (item ws 8 < item ws 9) (Check.lelOrder.failedOpen .limits 9) ]

/-! ### GEOMETRY (Table 7.3, R118, R119) -/

/-- The ranges of GEOMETRY: zone count, roll count, exit pyrometer, C, L, then six starts, six ends and eight
contacts. -/
def geometryRanges : List (Nat × Nat) :=
  [(1, 6), (1, 8), (0, 240000), (0, 240000), (100, 2000)] ++ repeated 20 [(0, 240000)]

/-- The entry index of a GEOMETRY item (R118 item 1): its zone or roll, or 64. -/
def geometryIndex (i : Nat) : Nat :=
  if i < 5 then 64 else if i < 11 then i - 5 else if i < 17 then i - 11 else i - 17

/-- The zone order of zone `z` (R118 item 2). -/
def zoneOrdered (c : Commissioning) (z : Nat) : Bool :=
  decide (c.zoneStart z < c.zoneEnd z) && (z == 0 || decide (c.zoneEnd (z - 1) ≤ c.zoneStart z))

/-- The roll order of roll `r` (R118 item 4). -/
def rollOrdered (c : Commissioning) (r : Nat) : Bool :=
  (if r = 0 then decide (c.exitPosition ≤ c.rollContact 0) else decide (c.rollContact (r - 1) < c.rollContact r))
    && (r + 1 != c.rollCount || decide (c.rollContact r < c.chillExit))

/-- The checks of GEOMETRY against the other shadows in `c` (R118, R119). -/
def checkGeometry (c : Commissioning) : Option Failure :=
  firstSome
    [ checkRanges c.geometry geometryRanges (fun i => Check.range.failed .geometry (geometryIndex i)),
      firstSome (c.activeZones.map fun z => check (zoneOrdered c z) (Check.zoneOrder.failed .geometry z)),
      check (decide (c.dryerEnd ≤ c.exitPosition) && decide (c.exitPosition < c.chillExit))
        (Check.exitOrder.failed .geometry 64),
      firstSome (c.activeRolls.map fun r => check (rollOrdered c r) (Check.rollOrder.failed .geometry r)),
      check (c.chillExit ≤ 120 * c.segmentLength) (Check.capacity.failed .geometry 64),
      check (c.vmax * c.period ≤ 4 * c.segmentLength * 1000000) (Check.advance.failed .geometry 64) ]

/-! ### CELL_MAP (R13, R181) -/

/-- The range checks of an entry (R181): a known channel, and a cell index up to 255 unless UNUSED. -/
def mapEntryOk (c : Commissioning) (i : Nat) : Bool :=
  c.mapChannel i == 0 || ((isInputChannel (c.mapChannel i) || isOutputChannel (c.mapChannel i)) && decide (c.mapCell i ≤ 255))

/-- Entry `i` names the cell of an earlier entry, neither of them UNUSED (R13 item 1). With several duplicate pairs the
lowest such entry is reported: the model's choice where pairs interleave (assumption 34). -/
def cellTaken (c : Commissioning) (i : Nat) : Bool :=
  c.mapChannel i != 0 && (List.range i).any fun j => c.mapChannel j != 0 && c.mapCell j == c.mapCell i

/-- Entry `i` names the channel of an earlier entry (R13 item 2), the lowest such entry reported (assumption 34). -/
def channelTaken (c : Commissioning) (i : Nat) : Bool :=
  c.mapChannel i != 0 && (List.range i).any fun j => c.mapChannel j == c.mapChannel i

/-- The channels that must be mapped (R13 item 3), by the codes of Table 12.3. -/
def requiredChannels (c : Commissioning) : List Nat :=
  [1, 3] ++ c.activeZones.map (7 + ·) ++ c.activeZones.map fireChannel ++ c.activeRolls.map (45 + ·)

/-- The checks of CELL_MAP; a range check reports the entry (assumption 21), a duplicate check the lowest entry that
repeats an earlier one (assumption 34). -/
def checkCellMap (c : Commissioning) : Option Failure :=
  firstSome
    [ firstSome (tabulate 64 fun i => check (mapEntryOk c i) (Check.range.failed .cellMap i)),
      firstSome (tabulate 64 fun i => check (!cellTaken c i) (Check.duplicateCell.failed .cellMap i)),
      firstSome (tabulate 64 fun i => check (!channelTaken c i) (Check.duplicateChannel.failed .cellMap i)),
      check ((requiredChannels c).all fun ch => (c.cellOf ch).isSome) (Check.missingChannel.failed .cellMap 64) ]

/-! ### INPUT_LINES, ZONE_TUNING, CHILL_TUNING (R154, R87, R135) -/

/-- The checks of INPUT_LINES: mode, action and filter time of each line; the entry index is the line. -/
def checkInputLines (ws : List Word) : Option Failure :=
  checkRanges ws (repeated 4 [(0, 5), (0, 1), (0, 50)]) fun i => Check.range.failed .inputLines (i / 3)

/-- The checks of ZONE_TUNING; the entry index is the zone. -/
def checkZoneTuning (ws : List Word) : Option Failure :=
  checkRanges ws (repeated 6 [(0, 5000), (0, 5000), (1, 500), (1, 5000), (1, 5000)]) fun i =>
    Check.range.failed .zoneTuning (i / 5)

/-- The checks of CHILL_TUNING; the entry index is the roll, or 64 (R135). -/
def checkChillTuning (ws : List Word) : Option Failure :=
  checkRanges ws ([(0, 5000), (0, 5000), (0, 5000), (0, 10000)] ++ repeated 8 [(0, 10000), (0, 10000)]) fun i =>
    Check.range.failed .chillTuning (if i < 4 then 64 else (i - 4) / 2)

/-- What LEAVE_CONFIG checks, in its order (R170). -/
def Commissioning.validate (c : Commissioning) : Option Failure :=
  firstSome
    [ checkNode c.node, checkLimits c.limits, checkGeometry c, checkCellMap c, checkInputLines c.inputLines,
      checkZoneTuning c.zoneTuning, checkChillTuning c.chillTuning ]

/-! ### Recipe tables (R89, R97, R134, R139, R181) -/

/-- The first `n` of a curve's speeds, at places `place 0`, `place 1`, … of a table, strictly ascend. -/
def ascending (ws : List Word) (n : Nat) (place : Nat → Nat) : Bool :=
  (List.range (n - 1)).all fun i => item ws (place i) < item ws (place (i + 1))

/-- Each field of each of the first `n` breakpoints in its range: `ranges` for the fields of one breakpoint. -/
def pointsIn (ws : List Word) (n : Nat) (place : Nat → Nat) (ranges : List (Nat × Nat)) : Bool :=
  (List.range n).all fun i => ranges.zipIdx.all fun p => itemIn ws (place i + p.2) p.1

/-- The place of breakpoint `i` of zone `z` in ZONE_CURVES. -/
def zonePlace (z i : Nat) : Nat := 7 + 48 * z + 4 * i

/-- The ranges of speed, air, fan and fire (Table 5.9). -/
def zonePointRanges : List (Nat × Nat) := [(0, 20000), (0, 4000), (0, 10000), (0, 10000)]

/-- The range checks of one zone's curve (R89): the count, then the breakpoints within the count. -/
def checkZoneRanges (ws : List Word) (z : Nat) : Option Failure :=
  firstSome
    [ check (itemIn ws (1 + z) (0, 12)) (Check.range.failed .zoneCurves z),
      check (pointsIn ws (item ws (1 + z)) (zonePlace z) zonePointRanges) (Check.range.failed .zoneCurves z) ]

/-- Strict ascent of one zone's breakpoint speeds (R89). -/
def checkZoneAscent (ws : List Word) (z : Nat) : Option Failure :=
  check (ascending ws (item ws (1 + z)) (zonePlace z)) (Check.ascent.failed .zoneCurves z)

/-- The checks of ZONE_CURVES in the order R89 gives: the tag, then the zones, ascending (assumption 19). -/
def checkZoneCurves (ws : List Word) : Option Failure :=
  firstSome
    [ check (itemIn ws 0 (0, 65535)) (Check.range.failed .zoneCurves 64),
      partChecks 6 (checkZoneRanges ws) (checkZoneAscent ws) ]

/-- The checks of EXHAUST_CURVE; the entry index is 64 (R181). -/
def checkExhaustCurve (ws : List Word) : Option Failure :=
  firstSome
    [ check (itemIn ws 0 (0, 65535)) (Check.range.failed .exhaustCurve 64),
      check (itemIn ws 1 (0, 8)) (Check.range.failed .exhaustCurve 64),
      check (pointsIn ws (item ws 1) (fun i => 2 + 2 * i) [(0, 20000), (0, 10000)]) (Check.range.failed .exhaustCurve 64),
      check (ascending ws (item ws 1) (fun i => 2 + 2 * i)) (Check.ascent.failed .exhaustCurve 64) ]

/-- The place of breakpoint `i` of roll `r` in CHILL_CURVES. -/
def rollPlace (r i : Nat) : Nat := 13 + 16 * r + 2 * i

/-- The checks of CHILL_CURVES: every range first (R181), in the order of Table 12.5 (assumption 20), then strict
ascent of each curve (R134). -/
def checkChillCurves (ws : List Word) : Option Failure :=
  firstSome
    [ checkRanges ws [(0, 65535), (0, 1000), (0, 3000), (0, 1000), (0, 2000)] (fun _ => Check.range.failed .chillCurves 64),
      firstSome (tabulate 8 fun r => check (itemIn ws (5 + r) (0, 8)) (Check.range.failed .chillCurves r)),
      firstSome (tabulate 8 fun r =>
        check (pointsIn ws (item ws (5 + r)) (rollPlace r) [(0, 20000), (0, 10000)]) (Check.range.failed .chillCurves r)),
      firstSome (tabulate 8 fun r =>
        check (ascending ws (item ws (5 + r)) (rollPlace r)) (Check.ascent.failed .chillCurves r)) ]

/-- The ranges of a class window (Table 9.2). -/
def windowRanges : List (Nat × Nat) := [(0, 4000000000), (0, 4000000000), (0, 3000), (0, 3000), (0, 1000)]

/-- The range checks of one class (R139). -/
def checkWindowRanges (ws : List Word) (k : Nat) : Option Failure :=
  checkRanges (ws.drop (5 + 5 * k)) windowRanges (fun _ => Check.range.failed .doseWindows k)

/-- The relations of one class (R139): the dose window, then the exit band. -/
def checkWindowOrder (ws : List Word) (k : Nat) : Option Failure :=
  firstSome
    [ check (item ws (5 + 5 * k) ≤ item ws (6 + 5 * k)) (Check.doseOrder.failed .doseWindows k),
      check (item ws (7 + 5 * k) ≤ item ws (8 + 5 * k)) (Check.exitBand.failed .doseWindows k) ]

/-- The checks of DOSE_WINDOWS: entry 0 (the tag, and four words given as 0; assumption 20), then the classes in the order
R139 gives (assumption 19). -/
def checkDoseWindows (ws : List Word) : Option Failure :=
  firstSome
    [ checkRanges ws [(0, 65535), (0, 0), (0, 0), (0, 0), (0, 0)] (Check.range.failedOpen .doseWindows),
      partChecks 4 (checkWindowRanges ws) (checkWindowOrder ws) ]

/-- What COMMIT checks in a recipe shadow (R168). -/
def Recipe.validate (r : Recipe) : TableId → Option Failure
  | .zoneCurves => checkZoneCurves r.zoneCurves
  | .exhaustCurve => checkExhaustCurve r.exhaustCurve
  | .chillCurves => checkChillCurves r.chillCurves
  | .doseWindows => checkDoseWindows r.doseWindows
  | .node | .cellMap | .geometry | .limits | .inputLines | .zoneTuning | .chillTuning
  | .report | .status | .track | .counters | .identity => none

end Sys2Proof.Machine
end

