-- ==== Sys2Proof/Machine/Service.lean ====
section
/-!
DEFINITION. Service requests (R161 to R177): the common checks, and the judgement and effect of each kind. A `serve`
definition gives the part after the request and the reply (R180).
-/
namespace Sys2Proof.Machine

/-- The request kinds (Table 12.2). -/
inductive RequestKind where
  | read | write | commit | discard | enterConfig | leaveConfig | store | clearLatched | clearCauses | clearCounters
  | tripReset | testTrip | lineReset
deriving DecidableEq, Repr

/-- Request kind codes (Table 12.2); any other is no kind. -/
def RequestKind.ofCode : Nat → Option RequestKind
  | 1 => some .read | 2 => some .write | 3 => some .commit | 4 => some .discard | 5 => some .enterConfig
  | 6 => some .leaveConfig | 7 => some .store | 8 => some .clearLatched | 9 => some .clearCauses
  | 10 => some .clearCounters | 11 => some .tripReset | 12 => some .testTrip | 13 => some .lineReset
  | _ => none

/-! ### Replies (R163, R180) -/

/-- A reply that leaves the payload as it arrived and takes the view 0 (R180). -/
def Reply.plain (status : Status) (r : Request) : Reply := ⟨status, 0, r.payload⟩

def Reply.done (r : Request) : Reply := .plain .done r

def Reply.accepted (r : Request) : Reply := .plain .accepted r

def Reply.refused (why : Reason) (r : Request) : Reply := .plain (.refused why) r

/-- REFUSED CHECK: payload word 0 the check code, word 1 the entry index (R168, R170). -/
def Reply.failedCheck (f : Failure) : Reply := ⟨.refused .check, 0, [BitVec.ofNat 32 f.code, f.index]⟩

/-- ACCEPTED with both payload words 0 (R168, R170). -/
def Reply.accepted0 : Reply := ⟨.accepted, 0, [0, 0]⟩

/-! ### The common checks (R163, Table 11.2) -/

/-- Check 2 for a READ, WRITE, COMMIT or DISCARD of a table of this class: why its class does not admit the kind
(R164). -/
def TableClass.bars (c : TableClass) (k : RequestKind) : Option Reason :=
  match k, c with
  | .write, .readOnly => some .readOnly
  | .commit, .recipe => none
  | .commit, .commissioning | .commit, .immediate | .commit, .readOnly => some .table
  | .discard, .immediate | .discard, .readOnly => some .table
  | _, _ => none

/-- Check 3: the count is at least 1 and the entries named exist. -/
def countInRange (r : Request) (t : TableId) : Bool :=
  decide (1 ≤ r.count.toNat) && decide (r.index.toNat + r.count.toNat ≤ t.entries)

/-- Checks 2 and 3, and the length a READ or WRITE requires (check 4). -/
def accessCheck (k : RequestKind) (r : Request) : Option Reason :=
  match TableId.ofCode r.table.toNat with
  | none => some .table
  | some t =>
    match t.cls.bars k with
    | some why => some why
    | none =>
      if countInRange r t = false then some .range
      else if r.payload.length = r.count.toNat * t.entryWords then none
      else some .length

/-- Check 2, and the length a COMMIT or DISCARD requires (check 4). -/
def tableCheck (k : RequestKind) (r : Request) (length : Nat) : Option Reason :=
  match TableId.ofCode r.table.toNat with
  | none => some .table
  | some t =>
    match t.cls.bars k with
    | some why => some why
    | none => if r.payload.length = length then none else some .length

/-- Check 4 alone. -/
def lengthCheck (r : Request) (length : Nat) : Option Reason :=
  if r.payload.length = length then none else some .length

/-- Why a record of a known kind is refused before its own rule (checks 2 to 4 of Table 11.2). -/
def commonCheck (k : RequestKind) (r : Request) : Option Reason :=
  match k with
  | .read | .write => accessCheck k r
  | .commit => tableCheck k r 2
  | .discard => tableCheck k r 0
  | .leaveConfig => lengthCheck r 2
  | .clearLatched => lengthCheck r 1
  | .enterConfig | .store | .clearCauses | .clearCounters | .tripReset | .testTrip | .lineReset => lengthCheck r 0

/-- A record that fails a common check is refused with no effect; one that passes is judged by `f` (R163). -/
def State.checked (s : State) (k : RequestKind) (r : Request) (f : State × Reply) : State × Reply :=
  match commonCheck k r with
  | some why => (s, .refused why r)
  | none => f

/-- What a request does to the table it names; the common checks have found it in Table 11.3. -/
def onTable (r : Request) (s : State) (f : TableId → State × Reply) : State × Reply :=
  match TableId.ofCode r.table.toNat with
  | none => (s, .refused .table r)
  | some t => f t

/-! ### READ (R166, R180) -/

/-- `count` entries of `width` words from entry `index` onward. -/
def entriesOf (ws : List Word) (width index count : Nat) : List Word := (ws.drop (index * width)).take (count * width)

/-- The content a READ returns of a table (R166): `shadow` says which copy. -/
def State.content (s : State) (t : TableId) (shadow : Bool) : List Word :=
  match t with
  | .node | .cellMap | .geometry | .limits | .inputLines | .zoneTuning | .chillTuning
  | .zoneCurves | .exhaustCurve | .chillCurves | .doseWindows => (if shadow then s.svc.shadow else s.svc.active).words t
  | .report => [BitVec.ofNat 32 s.svc.enable.toNat]
  | .status => s.engine.view.statusWords
  | .track => s.engine.view.trackWords
  | .counters => s.engine.view.counterWords
  | .identity => identityWords Config.siliconRevision Config.serialNumber

/-- The view a DONE reply to a READ takes (R180). -/
def State.viewNumber (s : State) (t : TableId) : BitVec 32 :=
  match t with
  | .status | .track | .counters => s.engine.view.publication
  | .node | .cellMap | .geometry | .limits | .inputLines | .zoneTuning | .chillTuning
  | .zoneCurves | .exhaustCurve | .chillCurves | .doseWindows | .report | .identity => 0

/-- A table held as two copies (R165). -/
def TableId.hasCopies (t : TableId) : Bool := t.cls == .commissioning || t.cls == .recipe

/-- READ (R166): an option that is neither ACTIVE nor SHADOW is refused where it matters (R180). -/
def serveRead (r : Request) (s : State) : State × Reply :=
  s.checked .read r <| onTable r s fun t =>
    if t.hasCopies = true ∧ r.option ≠ 0 ∧ r.option ≠ 1 then (s, .refused .range r)
    else
      (s, ⟨.done, s.viewNumber t,
        entriesOf (s.content t (r.option == 1)) t.entryWords r.index.toNat r.count.toNat⟩)

/-! ### WRITE and DISCARD (R167) -/

/-- The table is pending (R165). -/
def PendingSet.has (p : PendingSet) : TableId → Bool
  | .node | .cellMap | .geometry | .limits | .inputLines | .zoneTuning | .chillTuning => p.comm
  | .zoneCurves => p.zoneCurves
  | .exhaustCurve => p.exhaustCurve
  | .chillCurves => p.chillCurves
  | .doseWindows => p.doseWindows
  | .report | .status | .track | .counters | .identity => false

/-- The shadow copies replaced. -/
def State.setShadow (s : State) (t : Tables) : State := { s with svc := { s.svc with shadow := t } }

/-- The shadow of a table with the payload words laid over it from entry `index` on. -/
def Tables.written (t : Tables) (id : TableId) (index : Nat) (payload : List Word) : Tables :=
  t.setWords id (overlay (t.words id) (index * id.entryWords) payload)

/-- Why a change of a table's shadow is refused (R167). -/
def State.shadowBarred (s : State) (t : TableId) : Option Reason :=
  match t.cls with
  | .commissioning => if s.svc.node ≠ .config then some .state else if s.svc.pendingSet.comm then some .busy else none
  | .recipe => if s.svc.pendingSet.has t then some .busy else none
  | .immediate | .readOnly => none

/-- The enable mask replaced by the low half of a word; ALERT is formed anew (R175). -/
def State.setEnable (s : State) (w : Word) : State :=
  { s with svc := { s.svc with enable := BitVec.ofNat 16 w.toNat } }.formAlert

/-- WRITE (R167). -/
def serveWrite (r : Request) (s : State) : State × Reply :=
  s.checked .write r <| onTable r s fun t =>
    match s.shadowBarred t with
    | some why => (s, .refused why r)
    | none =>
      if t = .report then (s.setEnable (r.payload.getD 0 0), .done r)
      else (s.setShadow (s.svc.shadow.written t r.index.toNat r.payload), .done r)

/-- DISCARD (R167). -/
def serveDiscard (r : Request) (s : State) : State × Reply :=
  s.checked .discard r <| onTable r s fun t =>
    match s.shadowBarred t with
    | some why => (s, .refused why r)
    | none => (s.setShadow (s.svc.shadow.setWords t (s.svc.active.words t)), .done r)

/-! ### COMMIT (R168) -/

/-- A recipe table joins the pending set. -/
def PendingSet.join (p : PendingSet) : TableId → PendingSet
  | .zoneCurves => { p with zoneCurves := true }
  | .exhaustCurve => { p with exhaustCurve := true }
  | .chillCurves => { p with chillCurves := true }
  | .doseWindows => { p with doseWindows := true }
  | .node | .cellMap | .geometry | .limits | .inputLines | .zoneTuning | .chillTuning
  | .report | .status | .track | .counters | .identity => p

/-- The pending set replaced. -/
def State.setPending (s : State) (p : PendingSet) : State := { s with svc := { s.svc with pendingSet := p } }

/-- COMMIT (R168). -/
def serveCommit (r : Request) (s : State) : State × Reply :=
  s.checked .commit r <| onTable r s fun t =>
    if s.svc.pendingSet.has t then (s, .refused .busy r)
    else
      match s.svc.shadow.recipe.validate t with
      | some f => (s, .failedCheck f)
      | none => (s.setPending (s.svc.pendingSet.join t), .accepted0)

/-! ### ENTER_CONFIG and LEAVE_CONFIG (R169, R170) -/

/-- The node enters CONFIG: every commissioning shadow equals its active copy, and HEAT_REQUEST is formed anew. -/
def State.toConfig (s : State) : State :=
  { s with svc := { s.svc with node := .config, shadow := { s.svc.shadow with comm := s.svc.active.comm } } }.formHeat

/-- ENTER_CONFIG (R169). -/
def serveEnterConfig (r : Request) (s : State) : State × Reply :=
  s.checked .enterConfig r <|
    if s.svc.writing.isSome then (s, .refused .busy r)
    else if s.svc.node = .config ∧ s.svc.pendingSet.comm = true then (s, .refused .busy r)
    else if s.engine.dryer.state ≠ .cold then (s, .refused .state r)
    else (s.toConfig, .done r)

/-- LEAVE_CONFIG (R170). -/
def serveLeaveConfig (r : Request) (s : State) : State × Reply :=
  s.checked .leaveConfig r <|
    if s.svc.node = .operate then (s, .refused .state r)
    else if s.svc.writing.isSome then (s, .refused .busy r)
    else if s.svc.pendingSet.comm then (s, .refused .busy r)
    else
      match s.svc.shadow.comm.validate with
      | some f => (s, .failedCheck f)
      | none => (s.setPending { s.svc.pendingSet with comm := true }, .accepted0)

/-! ### STORE and its completion (R171, R172) -/

/-- A STORE is accepted: the image is taken, the marker becomes invalid, the state WRITING. -/
def State.beginStore (s : State) : State :=
  { s with
    svc := { s.svc with writing := some s.svc.active.comm }
    nv := { s.nv with marker := false } }

/-- STORE (R172). -/
def serveStore (r : Request) (s : State) : State × Reply :=
  s.checked .store r <|
    if s.svc.defaultsActive then (s, .refused .state r)
    else if s.svc.writing.isSome then (s, .refused .busy r)
    else (s.beginStore, .accepted r)

/-- The write of `image` ends (R172); a failed write leaves the image unused, its marker invalid (assumption 33). -/
def State.endStore (s : State) (image : Commissioning) (written : Bool) : State :=
  if written then
    { s with svc := { s.svc with writing := none, result := .ok }, nv := ⟨image, true⟩ }
  else
    ({ s with svc := { s.svc with writing := none, result := .failed }
              nv := { s.nv with marker := false } }.latchFlag .storeFail).latchFlag .storeInvalid

/-! ### Flags, counters and trips (R174, R176, R156 to R158) -/

/-- The latched set after CLEAR_LATCHED with this mask word (R174). -/
def State.latchedAfter (s : State) (mask : Word) : BitVec 16 :=
  s.svc.latched &&& ~~~(BitVec.ofNat 16 mask.toNat &&& ~~~s.presentSet)

/-- The latched set replaced; ALERT is formed anew (R175). -/
def State.setLatched (s : State) (m : BitVec 16) : State := { s with svc := { s.svc with latched := m } }.formAlert

/-- CLEAR_LATCHED (R174): the reply word holds the flags still latched, bits 16 to 31 as 0. -/
def serveClearLatched (r : Request) (s : State) : State × Reply :=
  s.checked .clearLatched r
    (s.setLatched (s.latchedAfter (r.payload.getD 0 0)),
      ⟨.done, 0, [BitVec.ofNat 32 (s.latchedAfter (r.payload.getD 0 0)).toNat]⟩)

/-- CLEAR_CAUSES (R176). -/
def serveClearCauses (r : Request) (s : State) : State × Reply :=
  s.checked .clearCauses r ({ s with svc := { s.svc with resetCauses := 0 } }, .done r)

/-- CLEAR_COUNTERS (R176, R145). -/
def serveClearCounters (r : Request) (s : State) : State × Reply :=
  s.checked .clearCounters r ({ s with svc := { s.svc with clearPending := true } }, .accepted r)

/-- A present trip condition (R156). -/
def State.tripCondition (s : State) : Bool :=
  (List.range 4).any s.lineActive || s.trip.breakCell || s.engine.exhaust.level

/-- An accepted TRIP_RESET (R157). -/
def State.resetTrip (s : State) : State :=
  State.formHeat (State.formTrip
    { s with trip := { s.trip with latch := false, causes := 0, firstCause := none } })

/-- TRIP_RESET (R156, Table 10.5). -/
def serveTripReset (r : Request) (s : State) : State × Reply :=
  s.checked .tripReset r <|
    if s.trip.latch = false then (s, .done r)
    else if s.trip.purgeDone = false then (s, .refused .purging r)
    else if s.tripCondition then (s, .refused .active r)
    else (s.resetTrip, .done r)

/-- TEST_TRIP (R158). -/
def serveTestTrip (r : Request) (s : State) : State × Reply :=
  s.checked .testTrip r <|
    if s.engine.dryer.state = .run then (s, .refused .state r)
    else (s.tripArrives .test, .done r)

/-- LINE_RESET (R177): on DONE the reset is due, and takes effect once the frame has been forwarded. -/
def serveLineReset (r : Request) (s : State) : State × Reply :=
  s.checked .lineReset r <|
    if s.svc.writing.isSome then (s, .refused .busy r)
    else if s.svc.node = .config ∨ (s.engine.dryer.state = .cold ∧ s.trip.latch = false) then
      ({ s with svc := { s.svc with lineResetDue := true } }, .done r)
    else (s, .refused .state r)

/-- A record of a known kind is judged by the rule of its kind (R163). -/
def serve (k : RequestKind) (r : Request) (s : State) : State × Reply :=
  match k with
  | .read => serveRead r s
  | .write => serveWrite r s
  | .commit => serveCommit r s
  | .discard => serveDiscard r s
  | .enterConfig => serveEnterConfig r s
  | .leaveConfig => serveLeaveConfig r s
  | .store => serveStore r s
  | .clearLatched => serveClearLatched r s
  | .clearCauses => serveClearCauses r s
  | .clearCounters => serveClearCounters r s
  | .tripReset => serveTripReset r s
  | .testTrip => serveTestTrip r s
  | .lineReset => serveLineReset r s

/-! ### A request as a command of its own (assumption 14) -/

/-- While LOADING the part serves no record (R161); otherwise it serves this one and the reply stands in `lastReply`. -/
def State.request (s : State) (served : State × Reply) : State :=
  if s.svc.node = .loading then s else { served.1 with lastReply := some served.2 }

/-- READ (R166). -/
def execRead (r : Request) (s : State) : Host.Outcome State Fault Refusal := .next (s.request (serveRead r s))

/-- WRITE (R167). -/
def execWrite (r : Request) (s : State) : Host.Outcome State Fault Refusal := .next (s.request (serveWrite r s))

/-- COMMIT (R168). -/
def execCommit (r : Request) (s : State) : Host.Outcome State Fault Refusal := .next (s.request (serveCommit r s))

/-- DISCARD (R167). -/
def execDiscard (r : Request) (s : State) : Host.Outcome State Fault Refusal := .next (s.request (serveDiscard r s))

/-- ENTER_CONFIG (R169). -/
def execEnterConfig (r : Request) (s : State) : Host.Outcome State Fault Refusal :=
  .next (s.request (serveEnterConfig r s))

/-- LEAVE_CONFIG (R170). -/
def execLeaveConfig (r : Request) (s : State) : Host.Outcome State Fault Refusal :=
  .next (s.request (serveLeaveConfig r s))

/-- STORE (R172). -/
def execStore (r : Request) (s : State) : Host.Outcome State Fault Refusal := .next (s.request (serveStore r s))

/-- STORE_COMPLETION (R172): nothing completes where no STORE is in flight (assumption 7). -/
def execStoreCompletion (written : Bool) (s : State) : Host.Outcome State Fault Refusal :=
  .next <|
    match s.svc.writing with
    | none => s
    | some image => s.endStore image written

/-- CLEAR_LATCHED (R174). -/
def execClearLatched (r : Request) (s : State) : Host.Outcome State Fault Refusal :=
  .next (s.request (serveClearLatched r s))

/-- CLEAR_CAUSES (R176). -/
def execClearCauses (r : Request) (s : State) : Host.Outcome State Fault Refusal :=
  .next (s.request (serveClearCauses r s))

/-- CLEAR_COUNTERS (R176). -/
def execClearCounters (r : Request) (s : State) : Host.Outcome State Fault Refusal :=
  .next (s.request (serveClearCounters r s))

/-- TRIP_RESET (R156, R157). -/
def execTripReset (r : Request) (s : State) : Host.Outcome State Fault Refusal :=
  .next (s.request (serveTripReset r s))

/-- TEST_TRIP (R158): local time moves on to the moment of service (assumption 31). -/
def execTestTrip (r : Request) (time : Nat) (s : State) : Host.Outcome State Fault Refusal :=
  .next ((s.advanceTo time).request (serveTestTrip r (s.advanceTo time)))

/-- LINE_RESET (R177). -/
def execLineReset (r : Request) (s : State) : Host.Outcome State Fault Refusal :=
  .next (s.request (serveLineReset r s))

end Sys2Proof.Machine
end

