-- ==== Sys2Proof/Machine/LinePort.lean ====
section
/-!
DEFINITION. The Line Port: links (R1), arrival and forwarding of frames (R2 to R6), the writing of output cells (R9,
R10), and the service lane (R162).
-/
namespace Sys2Proof.Machine

/-! ### Links (R1) -/

/-- What the physical layer of a port reports. -/
def Pins.report (p : Pins) (port : Port) (up : Bool) : Pins :=
  match port with
  | .ringIn => { p with phyIn := up }
  | .ringOut => { p with phyOut := up }

/-- The link state of a port. -/
def LinePort.link (l : LinePort) (port : Port) : Bool :=
  match port with
  | .ringIn => l.inUp
  | .ringOut => l.outUp

/-- The link state of a port replaced. -/
def LinePort.setLink (l : LinePort) (port : Port) (up : Bool) : LinePort :=
  match port with
  | .ringIn => { l with inUp := up }
  | .ringOut => { l with outUp := up }

/-- The physical layer's report is taken; a port held in reset stays DOWN (R1). -/
def State.setLink (s : State) (port : Port) (up : Bool) : State :=
  { s with
    pins := s.pins.report port up
    port := if s.pins.resetN then s.port.setLink port up else s.port }

/-- PORT_LINK_UP (R1). -/
def execPortLinkUp (port : Port) (s : State) : Host.Outcome State Fault Refusal := .next (s.setLink port true)

/-- A frame whose check sequence fails, or whose reception is cut short, is counted (R3, R1, R14). -/
def State.countFcs (s : State) : State := { s with port := { s.port with fcsFailed := s.port.fcsFailed + 1 } }

/-- The frame cut short by the loss of a link (Table 1.1): on IN it is counted, but for LOADING, where no count changes
(R5); on OUT, the last frame sent is lost (assumption 12). -/
def State.cutFrame (s : State) (port : Port) : State :=
  match port with
  | .ringIn => if s.svc.node = .loading then s else s.countFcs
  | .ringOut => { s with sent := s.sent.dropLast }

/-- PORT_LINK_DOWN (R1): `cut` says that the loss cuts a frame short, which needs a port that was UP. -/
def execPortLinkDown (port : Port) (cut : Bool) (s : State) : Host.Outcome State Fault Refusal :=
  .next ((if cut = true ∧ s.port.link port = true then s.cutFrame port else s).setLink port false)

/-! ### Output cells (R9, R10) -/

/-- The FIRE value written (R10): 0 while the latch is set, otherwise the read side bounded by the zone's max fire. -/
def State.fireValue (s : State) (z : Nat) : Int :=
  if s.trip.latch then 0 else clamp (s.port.readSide.fire.getD z 0) 0 (s.svc.active.comm.maxFire z)

/-- The value written to an output channel's cell (R9, R10). -/
def State.outputValue (s : State) (ch : Nat) : Half :=
  if 32 ≤ ch ∧ ch < 38 then cellBits (s.fireValue (ch - 32)) else s.port.readSide.value ch

/-- The output channel mapped to a cell, if the active CELL_MAP names one. -/
def Commissioning.outputAt (c : Commissioning) (cell : Nat) : Option Nat :=
  firstSome (tabulate 64 fun i =>
    if isOutputChannel (c.mapChannel i) = true ∧ c.mapCell i = cell then some (c.mapChannel i) else none)

/-- Cell `i` of a processed CYCLE frame as it leaves (R9): quality GOOD where it is written. -/
def State.writeCell (s : State) (i : Nat) (cell : Cell) : Cell :=
  match s.svc.active.comm.outputAt i with
  | none => cell
  | some ch => ⟨s.outputValue ch, 1⟩

/-- The process lane as it leaves (R9). -/
def State.writeCells (s : State) (cells : List Cell) : List Cell :=
  cells.zipIdx.map fun p => s.writeCell p.2 p.1

/-! ### The service lane (R162, R180) -/

/-- The record addresses this part and asks to be served (R162). -/
def State.addressed (s : State) (r : Record) : Bool :=
  r.status == 0
    && ((r.mode == 1 && r.address.toNat == s.svc.active.comm.station && s.svc.active.comm.station != 0)
      || (r.mode == 2 && r.address == Config.serialNumber))

/-- The fields of a record that a request kind may use. -/
def Record.request (r : Record) : Request := ⟨r.table, r.option, r.index, r.count, r.payload⟩

/-- The reply written over a record (R180). -/
def Record.answered (r : Record) (reply : Reply) : Record :=
  { r with
    status := reply.status.code
    reason := reply.status.reasonByte
    view := reply.view
    payload := reply.payload }

/-- A record that addresses the part is served (R163): an unknown kind is refused KIND. -/
def serveRecord (r : Record) (s : State) : State × Reply :=
  match RequestKind.ofCode r.kind.toNat with
  | none => (s, .refused .kind r.request)
  | some k => serve k r.request s

/-- An accepted LINE_RESET: the records after it are not served (R177). -/
def endsLane (r : Record) (reply : Reply) : Bool := r.kind == 13 && reply.status == .done

/-- The service lane, in lane order (R162). -/
def serveLane : List Record → State → State × List Record
  | [], s => (s, [])
  | r :: rest, s =>
    if s.addressed r then
      let out := serveRecord r s
      if endsLane r out.2 then (out.1, r.answered out.2 :: rest)
      else
        let tail := serveLane rest out.1
        (tail.1, r.answered out.2 :: tail.2)
    else
      let tail := serveLane rest s
      (tail.1, r :: tail.2)

/-! ### Arrival and forwarding (R2 to R6) -/

/-- A frame is transmitted on OUT, or dropped where OUT is DOWN (R1). -/
def State.forward (s : State) (f : EthFrame) : State := if s.port.outUp then { s with sent := s.sent ++ [f] } else s

/-- A malformed frame is counted (R4, R14). -/
def State.countMalformed (s : State) : State := { s with port := { s.port with malformed := s.port.malformed + 1 } }

/-- The process lane of a processed frame (R6 item 1): the part after it, and the cells that leave. The capture comes
before the writing (assumption 16). -/
def State.processLane (s : State) (f : LineFrame) (time : Nat) : State × List Cell :=
  match f.kind with
  | .cycle =>
    let s1 := s.arrival f.number f.cells time
    (s1, s1.writeCells f.cells)
  | .service => (s, f.cells)

/-- A line frame that passed the checks is processed (R6). -/
def State.process (s : State) (f : LineFrame) (time : Nat) : State :=
  let lane := s.processLane f time
  let served := serveLane f.records lane.1
  served.1.forward ⟨true, lineFrameType, frameBytes { f with cells := lane.2, records := served.2 }⟩

/-- A complete frame has arrived on IN, which is UP, with the node CONFIG or OPERATE (R3, R4, R6). -/
def State.receive (s : State) (frame : EthFrame) (time : Nat) : State :=
  if frame.fcsOk = false then s.countFcs.forward frame
  else if frame.etherType ≠ lineFrameType then s.forward frame
  else
    match parseFrame frame.payload with
    | none => s.countMalformed.forward frame
    | some f => s.process f time

/-- FRAME_ARRIVAL (R1 to R6). A frame on OUT is dropped (R2); none arrives on an IN that is DOWN or held in reset
(assumption 13). -/
def execFrameArrival (port : Port) (time : Nat) (frame : EthFrame) (s : State) : Host.Outcome State Fault Refusal :=
  .next <|
    match port with
    | .ringOut => s.advanceTo time
    | .ringIn =>
      if s.pins.resetN = false ∨ s.port.inUp = false then s
      else if s.svc.node = .loading then s.forward frame
      else (s.advanceTo time).receive frame time

end Sys2Proof.Machine
end

