-- ==== Sys2Proof/Machine/Report.lean ====
section
/-!
DEFINITION. Stage 7, the report stage, and publication (R39 to R41, R140 to R142).
-/
namespace Sys2Proof.Machine

/-- The first reason of the last WASTE segment in a list of retirements (R141). -/
def lastWasteReason (retired : List Segment) : Option WasteReason :=
  match (retired.filter (·.isWaste)).getLast? with
  | none => none
  | some g => g.reasons.head?

/-- GATE formed from the computation's retirements (R140, R141). -/
def Gate.next (g : Gate) (retired : List Segment) : Gate :=
  if retired.isEmpty then { g with count := 0 }
  else if retired.any (·.isWaste) then ⟨.waste, min retired.length 7, lastWasteReason retired⟩
  else ⟨.good, min retired.length 7, none⟩

/-- The working output set as stage 7 leaves it (R39). -/
def State.report (s : State) (c : Computation) : OutputSet where
  fire := tabulate 6 fun z => if s.svc.active.comm.zoneActive z then s.engine.working.fire.getD z 0 else 0
  fan := tabulate 6 fun z => if s.svc.active.comm.zoneActive z then s.engine.working.fan.getD z 0 else 0
  exhaust := s.engine.working.exhaust
  valve := tabulate 8 fun r => if s.svc.active.comm.rollActive r then s.engine.working.valve.getD r 0 else 0
  status := ⟨s.engine.dryer.state, c.node, s.trip.latch, s.svc.active.recipeComplete⟩
  gate := s.engine.working.gate.next c.retired
  alert := s.svc.latched

/-- The publication number after the next publication: from 2^32 − 1 to 1 (R40). -/
def nextPublication (n : BitVec 32) : BitVec 32 := if n + 1 = 0 then 1 else n + 1

/-- The published view of the computation `c` (R41, Table 3.5). -/
def State.viewOf (s : State) (c : Computation) : View where
  publication := nextPublication s.engine.view.publication
  number := c.number
  node := c.node
  v := s.engine.speed.v
  vs := s.engine.speed.vs
  held := s.engine.dryer.held
  dryer := s.engine.dryer.state
  zones := tabulate 6 fun z => (s.engine.zone z).state
  stand := s.engine.chill.stand
  complete := s.svc.active.recipeComplete
  zoneTag := s.svc.active.recipe.zoneTag
  exhaustTag := s.svc.active.recipe.exhaustTag
  chillTag := s.svc.active.recipe.chillTag
  doseTag := s.svc.active.recipe.doseTag
  latch := s.trip.latch
  causes := s.trip.causes
  firstCause := s.trip.firstCause
  purgeDone := s.trip.purgeDone
  latched := s.svc.latched
  present := s.presentSet
  pendingSet := s.svc.pendingSet
  clearPending := s.svc.clearPending
  writing := s.svc.writing.isSome
  result := s.svc.result
  resetCauses := s.svc.resetCauses
  inUp := s.port.inUp
  outUp := s.port.outUp
  records := s.engine.track.records
  odometer := s.engine.track.odometer
  nextMark := s.engine.track.nextMark
  anchored := s.engine.track.anchored
  counters := s.engine.counters
  fcsFailed := s.port.fcsFailed
  malformed := s.port.malformed
  lateCount := s.sup.lateCount

/-- Stage 7 and the publication take place (R39, R40): read side and view are replaced whole, and the computation
leaves flight. -/
def takePublication (c : Computation) (s : State) : State :=
  { s with
    port := { s.port with readSide := s.report c }
    engine := { s.engine with working := s.report c, view := s.viewOf c, flight := none } }

/-- PUBLICATION (R40). -/
def execPublication (s : State) : Host.Outcome State Fault Refusal :=
  .next (s.atStage .report fun c => takePublication c s)

end Sys2Proof.Machine
end

