-- ==== Sys2Proof/Machine/Resets.lean ====
section
/-!
DEFINITION. Resets and load (R178, R173, R159).
-/
namespace Sys2Proof.Machine

/-- POWER_ON (R178): the set of reset causes is made {POWER_ON}. While RESET_N is low the part stays held
(assumption 24). The manual speaks only of the supply's rise: that a frame under transmission when the supply was lost
counts as sent whole, and stays in `State.sent`, is the model's choice (assumption 42). -/
def execPowerOn (s : State) : Host.Outcome State Fault Refusal := .next (s.resetBlocks ResetCause.powerOn.mask)

/-- A transmission already begun is cut short and lost (R178; assumption 12). -/
def State.cutSent (s : State) (cut : Bool) : State := if cut then { s with sent := s.sent.dropLast } else s

/-- RESET_N driven to a level. -/
def State.setResetN (s : State) (high : Bool) : State := { s with pins := { s.pins with resetN := high } }

/-- LOCAL_RESET (R178): RESET_N is driven low; LOCAL joins the reset causes. `cut` says that a frame was being
transmitted. -/
def execLocalReset (cut : Bool) (s : State) : Host.Outcome State Fault Refusal :=
  .next (((s.cutSent cut).setResetN false).resetBlocks (s.svc.resetCauses ||| ResetCause.localPin.mask))

/-- LOCAL_RESET_RELEASE (R178, R1): RESET_N returns high, load begins, and each port takes the state its physical layer
reports. -/
def execLocalResetRelease (s : State) : Host.Outcome State Fault Refusal :=
  .next <|
    if s.pins.resetN then s
    else { s.setResetN true with port := { s.port with inUp := s.pins.phyIn, outUp := s.pins.phyOut } }

/-- LINE_RESET_TAKES_EFFECT (R177, R178): the reset that an accepted LINE_RESET has made due; LINE joins the reset
causes. Where none is due, another reset having discarded it among them (assumption 41), nothing happens (assumption 15). -/
def execLineResetTakesEffect (s : State) : Host.Outcome State Fault Refusal :=
  .next (if s.svc.lineResetDue then s.resetBlocks (s.svc.resetCauses ||| ResetCause.line.mask) else s)

/-! ### End of load (R173, R159, R151) -/

/-- The commissioning tables that load gives (R173). -/
def ParamStore.loaded (nv : ParamStore) : Commissioning := if nv.marker then nv.image else .defaults

/-- The tables and node state that load gives (R173). -/
def Handler.loaded (h : Handler) (nv : ParamStore) : Handler :=
  { h with
    active := { h.active with comm := nv.loaded }
    shadow := { h.shadow with comm := nv.loaded }
    node := if nv.marker then .operate else .config
    defaultsActive := !nv.marker }

/-- Each break-line filter starts, with no level taken (R151). -/
def TripUnit.startFilters (t : TripUnit) : TripUnit := { t with filters := List.replicate 4 .reset }

/-- Load ends (R173): tables and node state, STORE_INVALID with the marker invalid, local time, the restart trip
(R159), and after it the filters. -/
def takeLoadEnd (s : State) : State :=
  let s1 := State.latchIf (!s.nv.marker) .storeInvalid { s with svc := s.svc.loaded s.nv, localTime := 0 }
  let s2 := s1.tripArrives .restart
  State.formLines { s2 with trip := s2.trip.startFilters }

/-- LOAD_END (R173): load ends only where it has begun, that is in LOADING with the part not held in reset. -/
def execLoadEnd (s : State) : Host.Outcome State Fault Refusal :=
  .next (if s.svc.node = .loading ∧ s.pins.resetN = true then takeLoadEnd s else s)

end Sys2Proof.Machine
end

