-- ==== Sys2Proof/Machine/Speed.lean ====
section
/-!
DEFINITION. Stage 1, the speed stage (R31 to R33).
-/
namespace Sys2Proof.Machine

/-- The speed hold has run out in this computation: no VALID sample, and the timer, once advanced, above the hold
time (R32, R37). -/
def speedHoldOut (c : Commissioning) (sample : Sample) (r : SpeedRec) : Bool :=
  !sample.isValid && c.speedHold < holdStep r.hold sample c.period

/-- The validated speed (R31, R32). -/
def validatedSpeed (c : Commissioning) (sample : Sample) (r : SpeedRec) : Nat :=
  match sample with
  | .valid w => (clamp w 0 c.vmax).toNat
  | .invalid | .absent => if speedHoldOut c sample r then 0 else (clamp r.lastValid 0 c.vmax).toNat

/-- The scheduling speed from v and SPEED_REF (R33). -/
def schedulingSpeed (c : Commissioning) (v : Nat) (ref : Sample) : Nat :=
  match ref with
  | .valid r => ((v : Int) + trunc ((clamp r 0 c.vmax - v) * c.lead) 16).toNat
  | .invalid | .absent => v

/-- Stage 1's state after the stage (R31 to R33). Within the hold the present condition of SPEED_INVALID is left
unchanged, as the first row of R32 gives it; where a longer speed hold has made a run-out hold last again, Table 11.4
reads otherwise, and following R32 there is the model's choice (assumption 38). -/
def SpeedRec.next (c : Commissioning) (samples : SampleSet) (r : SpeedRec) : SpeedRec :=
  let v := validatedSpeed c samples.webSpeed r
  { lastValid := if samples.webSpeed.isValid then v else r.lastValid
    v := v
    vs := schedulingSpeed c v samples.speedRef
    hold := holdStep r.hold samples.webSpeed c.period
    invalid := if samples.webSpeed.isValid then false else speedHoldOut c samples.webSpeed r || r.invalid }

/-- Stage 1 takes place for the computation in flight. -/
def takeSpeedStage (c : Computation) (s : State) : State :=
  State.latchIf (speedHoldOut s.svc.active.comm s.engine.samples.webSpeed s.engine.speed) .speedInvalid
    { s with engine := { s.engine with
        speed := s.engine.speed.next s.svc.active.comm s.engine.samples
        flight := some { c with stage := .dryer } } }

/-- SPEED_STAGE (R31, R32, R33). -/
def execSpeedStage (s : State) : Host.Outcome State Fault Refusal :=
  .next (s.atStage .speed fun c => takeSpeedStage c s)

/-- SPEED_HOLD_RUN_OUT (R32): stage 1 of a computation in which the speed hold runs out (assumption 9). -/
def execSpeedHoldRunOut (s : State) : Host.Outcome State Fault Refusal :=
  .next (s.atStage .speed fun c =>
    if speedHoldOut s.svc.active.comm s.engine.samples.webSpeed s.engine.speed then takeSpeedStage c s else s)

end Sys2Proof.Machine
end

