-- ==== Sys2Proof/Machine/Zones.lean ====
section
/-!
DEFINITION. Stage 3, zone control (R67 to R86).
-/
namespace Sys2Proof.Machine

/-- What the step of zone `z` reads beside its own record: the active tables, the dryer state and permit as
stage 2 left them, v_s, the zone and its AIR_TEMP entry (R67). -/
structure ZoneInputs where
  tables : Tables
  dryer  : DryerState
  permit : Bool
  vs     : Nat
  zone   : Nat
  air    : Sample
deriving DecidableEq, Repr

/-- Zone `z`'s curve in field `k` (1 air, 2 fan, 3 fire) at v_s (R34). -/
def ZoneInputs.curve (i : ZoneInputs) (k : Nat) : Int := curveValue (i.tables.recipe.zoneCurve i.zone k) i.vs

/-- The air target A_t in 0.1 °C of a controlled zone (Table 5.4). -/
def ZoneInputs.targetAir (i : ZoneInputs) : Int :=
  let c := i.tables.comm
  match i.dryer with
  | .preheat | .ready => clamp (c.standbyAir i.zone) 0 (c.maxAir i.zone)
  | .hold => clamp (c.holdAir i.zone) 0 (c.maxAir i.zone)
  | .run => clamp (i.curve 1) 0 (c.maxAir i.zone)
  | .cold | .purge | .cooldown => 0

/-- The base fire B_t in 0.01 % (Table 5.4). -/
def ZoneInputs.baseFire (i : ZoneInputs) : Int :=
  match i.dryer with
  | .run => clamp (i.curve 3) 0 (i.tables.comm.maxFire i.zone)
  | .preheat | .ready | .hold | .cold | .purge | .cooldown => 0

/-- FAN[z] in 0.01 % (R78, Table 5.5). -/
def ZoneInputs.fan (i : ZoneInputs) : Int :=
  let c := i.tables.comm
  match i.dryer with
  | .cold => 0
  | .preheat | .ready | .hold => clamp (c.standbyFan i.zone) (c.fanMin i.zone) 10000
  | .run => clamp (i.curve 2) (c.fanMin i.zone) 10000
  | .purge => c.purgeFan i.zone
  | .cooldown => c.coolFan i.zone

/-- The hold timer after its update (R69). -/
def ZoneRec.heldFor (r : ZoneRec) (i : ZoneInputs) : Nat := holdStep r.hold i.air i.tables.comm.period

/-- The sensor hold has run out: no valid air, and the timer above the sensor hold time (R69). -/
def ZoneRec.holdOut (r : ZoneRec) (i : ZoneInputs) : Bool :=
  !i.air.isValid && i.tables.comm.sensorHold < r.heldFor i

/-- The over-temperature finding (R83): formed from a valid air, otherwise kept. -/
def ZoneRec.overTempFound (r : ZoneRec) (i : ZoneInputs) : Bool :=
  match i.air with
  | .valid a => (i.tables.comm.maxAir i.zone : Int) < a
  | .invalid | .absent => r.overTemp

/-- The trip condition of R84: a valid air above max air plus the trip margin. -/
def overTempTrips (c : Commissioning) (z : Nat) (air : Sample) : Bool :=
  match air with
  | .valid a => (c.maxAir z : Int) + c.tripMargin z < a
  | .invalid | .absent => false

/-- A zone of this state was controlling or holding (Table 5.2, row 4). -/
def ZoneState.controlling : ZoneState → Bool
  | .firing | .limited | .holding => true
  | .off | .blocked | .fault => false

/-- S after initialisation (R79): from the measured air on entry to control, otherwise carried. -/
def ZoneRec.startSetpoint (r : ZoneRec) (i : ZoneInputs) (air : Int) : Int :=
  if r.state.controlling then r.setpoint else clamp (air * 100) 0 ((i.tables.comm.maxAir i.zone : Int) * 100)

/-- The slew step in m°C: at least 1 (R80). -/
def slewStep (rate period : Nat) : Int := max 1 (trunc ((rate : Int) * period) 10000)

/-- S slewed toward T, never past it (R80). -/
def slew (s t up down : Int) : Int :=
  if s < t then min (s + up) t else if t < s then max (s - down) t else s

/-- The setpoint of a controlled zone after its setpoint part (R79, R80). -/
def ZoneRec.slewed (r : ZoneRec) (i : ZoneInputs) (air : Int) : Int :=
  let c := i.tables.comm
  slew (r.startSetpoint i air) (i.targetAir * 100) (slewStep (c.slewUp i.zone) c.period)
    (slewStep (c.slewDown i.zone) c.period)

/-- The error e in m°C (R81 item 1). -/
def ZoneRec.error (r : ZoneRec) (i : ZoneInputs) (air : Int) : Int :=
  clamp (r.slewed i air - air * 100) (-100000) 100000

/-- The output u in 0.01 % (R81 item 2). -/
def ZoneRec.output (r : ZoneRec) (i : ZoneInputs) (air : Int) : Int :=
  i.baseFire + trunc ((i.tables.comm.kp i.zone : Int) * r.error i air) 1000 + trunc r.integ 10000

/-- The fire of a controlled zone (R81 item 3). -/
def ZoneRec.fire (r : ZoneRec) (i : ZoneInputs) (air : Int) : Int :=
  if r.overTempFound i then 0 else clamp (r.output i air) 0 (i.tables.comm.maxFire i.zone)

/-- The integrator step ΔI in 10^-6 % (R82). -/
def ZoneRec.integStep (r : ZoneRec) (i : ZoneInputs) (air : Int) : Int :=
  trunc ((i.tables.comm.ki i.zone : Int) * r.error i air * i.tables.comm.period) 100000

/-- The guard against windup: ΔI is not applied (R82). -/
def ZoneRec.guarded (r : ZoneRec) (i : ZoneInputs) (air : Int) : Bool :=
  (decide ((i.tables.comm.maxFire i.zone : Int) < r.output i air) && decide (0 < r.integStep i air))
    || (decide (r.output i air < 0) && decide (r.integStep i air < 0))
    || (r.overTempFound i && decide (0 < r.integStep i air))

/-- I after the update (R82). -/
def ZoneRec.integrated (r : ZoneRec) (i : ZoneInputs) (air : Int) : Int :=
  if r.guarded i air then r.integ else clamp (r.integ + r.integStep i air) (-100000000) 100000000

/-- LIMITED or FIRING (R73). -/
def ZoneRec.controlledState (r : ZoneRec) (i : ZoneInputs) (air : Int) : ZoneState :=
  if r.output i air < 0 ∨ (i.tables.comm.maxFire i.zone : Int) < r.output i air ∨ r.overTempFound i = true
  then .limited else .firing

/-- In band: |A_t − AIR| ≤ band (R85). -/
def ZoneInputs.withinBand (i : ZoneInputs) (air : Int) : Bool :=
  decide (i.targetAir - air ≤ i.tables.comm.band i.zone) && decide (air - i.targetAir ≤ i.tables.comm.band i.zone)

/-- S following the measured air in OFF and BLOCKED (R71). -/
def followAir (s : Int) : Sample → Int
  | .valid a => max 0 (a * 100)
  | .invalid | .absent => s

/-- What every zone state updates alike: hold timer and last valid AIR (R69), over-temperature finding (R83). -/
def ZoneRec.sensed (r : ZoneRec) (i : ZoneInputs) : ZoneRec :=
  { r with
    hold := r.heldFor i
    lastAir := match i.air with
      | .valid a => a
      | .invalid | .absent => r.lastAir
    overTemp := r.overTempFound i
    inBand := false
    faulted := false }

/-- An OFF or BLOCKED zone (R71, R72). -/
def ZoneRec.atRest (r : ZoneRec) (i : ZoneInputs) (state : ZoneState) : ZoneRec :=
  { r.sensed i with state := state, setpoint := followAir r.setpoint i.air, integ := 0, lastFire := 0 }

/-- A controlled zone (R73). -/
def ZoneRec.controlled (r : ZoneRec) (i : ZoneInputs) (air : Int) : ZoneRec :=
  { r.sensed i with
    state := r.controlledState i air
    setpoint := r.slewed i air
    integ := r.integrated i air
    lastFire := r.fire i air
    inBand := i.withinBand air }

/-- A HOLDING zone (R74). -/
def ZoneRec.heldOver (r : ZoneRec) (i : ZoneInputs) : ZoneRec :=
  { r.sensed i with state := .holding, lastFire := min r.lastFire (i.tables.comm.maxFire i.zone) }

/-- A FAULT zone (R75). -/
def ZoneRec.failed (r : ZoneRec) (i : ZoneInputs) : ZoneRec :=
  { r.sensed i with
    state := .fault
    setpoint := clamp r.setpoint 0 ((i.tables.comm.maxAir i.zone : Int) * 100)
    integ := 0
    lastFire := 0
    faulted := true }

/-- The step of one active zone: Table 5.2 decides its state, and the state its record (R70 to R75). -/
def ZoneRec.step (r : ZoneRec) (i : ZoneInputs) : ZoneRec :=
  if i.dryer.heated = false then r.atRest i .off
  else if i.permit = false then r.atRest i .blocked
  else
    match i.air with
    | .valid a => r.controlled i a
    | .invalid | .absent =>
      if r.state.controlling = true ∧ r.holdOut i = false then r.heldOver i else r.failed i

/-- What zone `z`'s step reads in the computation `c`. -/
def State.zoneInputs (s : State) (c : Computation) (z : Nat) : ZoneInputs where
  tables := s.svc.active
  dryer := s.engine.dryer.state
  permit := c.permit
  vs := s.engine.speed.vs
  zone := z
  air := s.engine.samples.air z

/-- The zone records after stage 3: an inactive zone's is the reset record (R68). -/
def State.zonesNext (s : State) (c : Computation) : List ZoneRec :=
  tabulate 6 fun z =>
    if s.svc.active.comm.zoneActive z then (s.engine.zone z).step (s.zoneInputs c z) else .reset

/-- Some active zone's air is at its trip level (R84). -/
def State.zoneTrips (s : State) : Bool :=
  s.svc.active.comm.activeZones.any fun z => overTempTrips s.svc.active.comm z (s.engine.samples.air z)

/-- FIRE[z] of each active zone in the working output set; stage 7 forms the others (R39). -/
def State.zoneFires (s : State) (c : Computation) : List Int :=
  tabulate 6 fun z =>
    if s.svc.active.comm.zoneActive z then ((s.engine.zone z).step (s.zoneInputs c z)).lastFire
    else s.engine.working.fire.getD z 0

/-- FAN[z] of each active zone in the working output set. -/
def State.zoneFans (s : State) (c : Computation) : List Int :=
  tabulate 6 fun z =>
    if s.svc.active.comm.zoneActive z then (s.zoneInputs c z).fan else s.engine.working.fan.getD z 0

/-- The engine after stage 3. -/
def State.zoneEngine (s : State) (c : Computation) : Engine :=
  { s.engine with
    zones := s.zonesNext c
    working := { s.engine.working with fire := s.zoneFires c, fan := s.zoneFans c }
    flight := some { c with stage := .exhaust } }

/-- Stage 3 takes place for the computation in flight (R70). Every zone that finds a trip condition sends the same
cause at the same moment, so one arrival stands for them all (R67; assumption 32). -/
def takeZoneStage (c : Computation) (s : State) : State :=
  let s1 := { s with engine := s.zoneEngine c }
  let s2 := State.latchIf ((s.zonesNext c).any (·.overTemp)) .overtemp s1
  let s3 := State.latchIf ((s.zonesNext c).any (·.faulted)) .zoneFault s2
  State.tripIf s.zoneTrips .overtemp s3

/-- Zone `z` is active, its sensor hold runs out in this computation, and its new state is FAULT (R75). -/
def State.zoneRunsOut (s : State) (c : Computation) (z : Nat) : Bool :=
  s.svc.active.comm.zoneActive z && (s.engine.zone z).holdOut (s.zoneInputs c z)
    && ((s.engine.zone z).step (s.zoneInputs c z)).state == .fault

/-- ZONE_STAGE (R70). -/
def execZoneStage (time : Nat) (s : State) : Host.Outcome State Fault Refusal :=
  .next (s.atStage .zones fun c => takeZoneStage c (s.advanceTo time))

/-- ZONE_SENSOR_HOLD_RUN_OUT (R75, R76): stage 3 of a computation in which the zone's sensor hold runs out and the
zone becomes FAULT (assumption 9). -/
def execZoneSensorHoldRunOut (zone : Fin 6) (time : Nat) (s : State) : Host.Outcome State Fault Refusal :=
  .next (s.atStage .zones fun c =>
    if s.zoneRunsOut c zone.val then takeZoneStage c (s.advanceTo time) else s)

end Sys2Proof.Machine
end

