-- ==== Sys2Proof/Machine/Dispatch.lean ====
section
/-!
DEFINITION. One arm for each command, in the order of spec/opcode_table.json.
-/
namespace Sys2Proof.Machine

def exec (i : Instr) (s : State) : Host.Outcome State Fault Refusal :=
  match i with
  | .powerOn => Sys2Proof.Machine.execPowerOn s
  | .localReset cut => Sys2Proof.Machine.execLocalReset cut s
  | .localResetRelease => Sys2Proof.Machine.execLocalResetRelease s
  | .lineResetTakesEffect => Sys2Proof.Machine.execLineResetTakesEffect s
  | .loadEnd => Sys2Proof.Machine.execLoadEnd s
  | .portLinkUp port => Sys2Proof.Machine.execPortLinkUp port s
  | .portLinkDown port cut => Sys2Proof.Machine.execPortLinkDown port cut s
  | .frameArrival port time frame => Sys2Proof.Machine.execFrameArrival port time frame s
  | .warnExpiry time => Sys2Proof.Machine.execWarnExpiry time s
  | .lossExpiry time => Sys2Proof.Machine.execLossExpiry time s
  | .speedStage => Sys2Proof.Machine.execSpeedStage s
  | .speedHoldRunOut => Sys2Proof.Machine.execSpeedHoldRunOut s
  | .dryerStep time permit => Sys2Proof.Machine.execDryerStep time permit s
  | .permitTimerReached time => Sys2Proof.Machine.execPermitTimerReached time s
  | .settleTimerReached time => Sys2Proof.Machine.execSettleTimerReached time s
  | .runConfirmReached time => Sys2Proof.Machine.execRunConfirmReached time s
  | .holdDelayReached time => Sys2Proof.Machine.execHoldDelayReached time s
  | .holdLimitReached time => Sys2Proof.Machine.execHoldLimitReached time s
  | .zoneStage time => Sys2Proof.Machine.execZoneStage time s
  | .zoneSensorHoldRunOut zone time => Sys2Proof.Machine.execZoneSensorHoldRunOut zone time s
  | .exhaustStage time => Sys2Proof.Machine.execExhaustStage time s
  | .lelHoldRunOut time => Sys2Proof.Machine.execLelHoldRunOut time s
  | .trackStage => Sys2Proof.Machine.execTrackStage s
  | .chillStage => Sys2Proof.Machine.execChillStage s
  | .chillSensorHoldRunOut => Sys2Proof.Machine.execChillSensorHoldRunOut s
  | .publication => Sys2Proof.Machine.execPublication s
  | .breakLineLevelChange line high time => Sys2Proof.Machine.execBreakLineLevelChange line high time s
  | .breakLineLevelTaken line time => Sys2Proof.Machine.execBreakLineLevelTaken line time s
  | .purgeExpiry time => Sys2Proof.Machine.execPurgeExpiry time s
  | .read r => Sys2Proof.Machine.execRead r s
  | .write r => Sys2Proof.Machine.execWrite r s
  | .commit r => Sys2Proof.Machine.execCommit r s
  | .discard r => Sys2Proof.Machine.execDiscard r s
  | .enterConfig r => Sys2Proof.Machine.execEnterConfig r s
  | .leaveConfig r => Sys2Proof.Machine.execLeaveConfig r s
  | .store r => Sys2Proof.Machine.execStore r s
  | .storeCompletion written => Sys2Proof.Machine.execStoreCompletion written s
  | .clearLatched r => Sys2Proof.Machine.execClearLatched r s
  | .clearCauses r => Sys2Proof.Machine.execClearCauses r s
  | .clearCounters r => Sys2Proof.Machine.execClearCounters r s
  | .tripReset r => Sys2Proof.Machine.execTripReset r s
  | .testTrip r time => Sys2Proof.Machine.execTestTrip r time s
  | .lineReset r => Sys2Proof.Machine.execLineReset r s

end Sys2Proof.Machine
end

