-- ==== Sys2Proof/Safety.lean ====
section
/-!
DEFINITION. The terms in which statements speak: what a command leaves alone, and the invariants of the part.
-/
namespace Sys2Proof.Machine

/-! ### Frames -/

/-- The fields of the state, named. -/
inductive Block where
  | port | sup | engine | trip | svc | nv | pins | localTime | sent | lastReply | choices | pending
deriving DecidableEq, Repr

/-- A field is the same in both states. -/
def Block.Same (s t : State) : Block → Prop
  | .port => t.port = s.port
  | .sup => t.sup = s.sup
  | .engine => t.engine = s.engine
  | .trip => t.trip = s.trip
  | .svc => t.svc = s.svc
  | .nv => t.nv = s.nv
  | .pins => t.pins = s.pins
  | .localTime => t.localTime = s.localTime
  | .sent => t.sent = s.sent
  | .lastReply => t.lastReply = s.lastReply
  | .choices => t.choices = s.choices
  | .pending => t.pending = s.pending

/-- From `s` to `t` only the named fields may change. -/
def ChangesOnly (s t : State) (changed : List Block) : Prop := ∀ b : Block, b ∉ changed → b.Same s t

/-! ### Invariants -/

/-- The three output lines stand at the levels their rules give (R63, R150, R175). -/
def State.LinesFormed (s : State) : Prop :=
  s.pins.heatRequest = s.heatLevel ∧ s.pins.tripLine = s.tripLevel ∧ s.pins.alertLine = s.alertLevel

/-- Admitted equals good plus waste plus an occupancy, modulo 2^32 (R144). -/
def TrackCounters.Balanced (k : TrackCounters) (occupancy : Nat) : Prop :=
  k.admitted = k.good + k.waste + BitVec.ofNat 32 occupancy

/-- The equality of R144, for the track as it stands and for the published view. -/
def State.CountersBalanced (s : State) : Prop :=
  s.engine.counters.Balanced s.engine.track.records.length ∧ s.engine.view.counters.Balanced s.engine.view.records.length

/-- A segment record keeps the ranges of Table 7.2, and holds each reason at most once (R102, R111). -/
def Segment.InRange (g : Segment) : Prop := g.dose ≤ 4000000000 ∧ g.cls ≤ 3 ∧ g.reasons.Nodup

/-- The track keeps the ranges of Tables 7.1 and 7.2 and never holds more than 128 records (R99, R108). -/
def State.TrackInRange (s : State) : Prop :=
  s.engine.track.records.length ≤ 128 ∧ s.engine.track.residue < 1000000
    ∧ ∀ g ∈ s.engine.track.records, g.InRange

/-- The computation in flight made commissioning tables active at its capture and has not passed its stage 5, which
flushes the track (R104). -/
def State.FlushDue (s : State) : Prop :=
  ∃ c, s.engine.flight = some c ∧ c.activated = true ∧ c.stage ≠ .chill ∧ c.stage ≠ .report

/-- The records stand one length apart (R109): consecutive marks differ by L and seqs by 1, and so do the newest record
and the next mark and seq; the next mark lies ahead of the odometer by at most L, and no midpoint has reached the chill
exit (R115). An unanchored track is empty (R105, R107), the residue is below 1 mm (R100) and v is at most vmax once stage 1
has formed it (R31). Between the activation of a new L and the flush it brings, the old records still stand. -/
def State.TrackSpaced (s : State) : Prop :=
  let m := s.svc.active.comm
  let k := s.engine.track
  let length := BitVec.ofNat 32 m.segmentLength
  (k.anchored = false → k.records = [])
    ∧ k.residue < 1000000
    ∧ (∀ c, s.engine.flight = some c → c.stage ≠ .speed → s.engine.speed.v ≤ m.vmax)
    ∧ (¬ s.FlushDue →
        (∀ i g h, k.records[i]? = some g → k.records[i + 1]? = some h → h.mark = g.mark + length ∧ h.seq = g.seq + 1)
          ∧ (∀ g, k.records.getLast? = some g → k.nextMark = g.mark + length ∧ k.nextSeq = g.seq + 1)
          ∧ (k.anchored = true →
              1 ≤ (k.nextMark - k.odometer).toNat ∧ (k.nextMark - k.odometer).toNat ≤ m.segmentLength)
          ∧ ∀ g ∈ k.records, g.midpoint k.odometer m.segmentLength < m.chillExit)

/-- The trip record agrees with itself (R147 to R149, R157): causes and a first cause among them exactly while the latch
is set, and the purge timer runs exactly while a latched trip's purge is not done. -/
def TripUnit.Consistent (t : TripUnit) : Prop :=
  (t.latch = false → t.causes = 0 ∧ t.firstCause = none ∧ t.purgeTimer = none)
    ∧ (t.latch = true → ∃ c, t.firstCause = some c ∧ t.causes.getLsbD c.bit = true)
    ∧ (t.latch = true → (t.purgeTimer.isSome ↔ t.purgeDone = false))

/-- While the node is LOADING the blocks hold their reset values (R15, R42, R146). -/
def State.LoadingReset (s : State) : Prop :=
  s.svc.node = .loading → s.sup = .reset ∧ s.engine = .reset ∧ s.trip = .reset

/-- The dryer of a CONFIG node is COLD (R60, R169). -/
def State.ConfigCold (s : State) : Prop := s.svc.node = .config → s.engine.dryer.state = .cold

/-- Commissioning tables that validation has accepted, or the built-in defaults (R170, R173). -/
def Commissioning.Accepted (c : Commissioning) : Prop := c = .defaults ∨ c.validate = none

/-- Recipe tables that validation accepts, each of them (R168); empty recipes are among them. -/
def Recipe.Accepted (r : Recipe) : Prop := ∀ t : TableId, r.validate t = none

/-- No value outside its range reaches an active copy (R181): every active copy, the Parameter Store's image and an
image being written have been accepted, and so have the shadows that are pending. -/
def State.TablesAccepted (s : State) : Prop :=
  s.svc.active.comm.Accepted ∧ s.svc.active.recipe.Accepted ∧ s.nv.image.Accepted
    ∧ (∀ c, s.svc.writing = some c → c.Accepted)
    ∧ (s.svc.pendingSet.comm = true → s.svc.node = .config ∧ s.svc.shadow.comm.validate = none)
    ∧ (∀ t, s.svc.pendingSet.has t = true → s.svc.shadow.recipe.validate t = none)

/-- Every copy of every table has the words of Table 12.5. -/
def State.TablesSized (s : State) : Prop :=
  s.svc.active.sized = true ∧ s.svc.shadow.sized = true ∧ (⟨s.nv.image, .blank⟩ : Tables).sized = true
    ∧ ∀ c, s.svc.writing = some c → (⟨c, .blank⟩ : Tables).sized = true

/-- An output value from 0 to 100.00 % (Table 1.4). -/
def Percent (x : Int) : Prop := 0 ≤ x ∧ x ≤ 10000

/-- An output set within Table 1.4: six FIRE, six FAN, EXHAUST and eight CHILL_VALVE values from 0 to 10000, and a
retired count from 0 to 7. -/
def OutputSet.InRange (o : OutputSet) : Prop :=
  o.fire.length = 6 ∧ o.fan.length = 6 ∧ o.valve.length = 8
    ∧ (∀ x ∈ o.fire, Percent x) ∧ (∀ x ∈ o.fan, Percent x) ∧ Percent o.exhaust ∧ (∀ x ∈ o.valve, Percent x)
    ∧ o.gate.count ≤ 7

/-- The output set is within Table 1.4 on both sides, and so is each zone's last fire. -/
def State.OutputsInRange (s : State) : Prop :=
  s.port.readSide.InRange ∧ s.engine.working.InRange ∧ ∀ r ∈ s.engine.zones, Percent r.lastFire

/-- A present condition holds its flag latched (R174). In LOADING nothing has been latched yet. -/
def State.PresentLatched (s : State) : Prop :=
  s.svc.node ≠ .loading → ∀ f : Flag, s.presentOf f = true → hasFlag s.svc.latched f = true

/-- A zone that is not active has no finding, but between the capture that took it out of use and the next stage 3
(R68). -/
def State.InactiveZonesClear (s : State) : Prop :=
  ∀ z, z < 6 → s.svc.active.comm.zoneActive z = false →
    ((s.engine.zone z).faulted = false ∧ (s.engine.zone z).overTemp = false)
      ∨ ∃ c, s.engine.flight = some c ∧ (c.stage = .speed ∨ c.stage = .dryer ∨ c.stage = .zones)

end Sys2Proof.Machine
end

