-- ==== Sys2Proof/Certificates/Slice0/Obligations.lean ====
section
/-!
DEFINITION. The statements for the provers, one `def Obligations.<Name> : Prop` each. In every statement a command's
own effect is an equation `exec c s = .next t` together with what `t` holds and, as `ChangesOnly`, what it leaves
alone; `s.advanceTo time` is `s` once local time has moved on (its own statement: LocalTimePasses).
-/

open Sys2Proof Sys2Proof.Machine

/-! ### The numbers of Table 12.3, each the place of a name in its row -/

/-- Node state. -/
def nodeNumber (x : NodeState) : Nat := [NodeState.loading, .config, .operate].idxOf x

/-- Dryer state. -/
def dryerNumber (x : DryerState) : Nat := [DryerState.cold, .preheat, .ready, .run, .hold, .purge, .cooldown].idxOf x

/-- Held mode request. -/
def requestNumber (x : ModeRequest) : Nat := [ModeRequest.off, .heat, .produce].idxOf x

/-- Zone state. -/
def zoneNumber (x : ZoneState) : Nat := [ZoneState.off, .blocked, .firing, .limited, .holding, .fault].idxOf x

/-- Stand state. -/
def standNumber (x : StandState) : Nat := [StandState.idle, .still, .tracking].idxOf x

/-- GATE's verdict. -/
def verdictNumber (x : GateVerdict) : Nat := [GateVerdict.none, .good, .waste].idxOf x

/-- Waste reason; 0 where there is none. -/
def reasonNumber (x : Option WasteReason) : Nat :=
  [none, some WasteReason.start, some .splice, some .zone, some .underdose, some .overdose, some .exitTemp,
    some .chillHot, some .unmeasured, some .break_, some .config].idxOf x

/-- Result of the last STORE. -/
def resultNumber (x : StoreResult) : Nat := [StoreResult.none, .ok, .failed].idxOf x

/-- Trip cause, as a bit of the cause set. -/
def causeNumber (x : Cause) : Nat :=
  [Cause.breakLine 0, .breakLine 1, .breakLine 2, .breakLine 3, .breakCell, .lel, .overtemp, .link, .test, .restart].idxOf x

/-- Latched condition flag, as a bit of the flag sets. -/
def flagNumber (x : Flag) : Nat :=
  [Flag.linkWarn, .cycleIrregular, .overrun, .speedInvalid, .modeInvalid, .zoneFault, .overtemp, .lelAlarm, .permitLost,
    .permitTimeout, .recipeMissing, .trip, .notice, .chillFault, .storeFail, .storeInvalid].idxOf x

/-- 1 for yes, 0 for no. -/
def yesNumber (x : Bool) : Nat := if x then 1 else 0

/-- The present condition of each flag (Table 11.4). A zone's findings count while it is active (assumption 28); that of
SPEED_INVALID is the item that stage 1 keeps (assumption 38). -/
def presentNow (s : State) : Flag → Prop
  | .linkWarn => s.sup.linkWarn = true
  | .speedInvalid => s.engine.speed.invalid = true
  | .modeInvalid => s.engine.dryer.modeFinding = true
  | .zoneFault => ∃ z < 6, z < s.svc.active.comm.zoneCount ∧ (s.engine.zone z).faulted = true
  | .overtemp => ∃ z < 6, z < s.svc.active.comm.zoneCount ∧ (s.engine.zone z).overTemp = true
  | .lelAlarm => s.engine.exhaust.alarm = true
  | .recipeMissing => s.engine.dryer.recipeFinding = true
  | .trip => s.trip.latch = true
  | .notice => ∃ k < 4, s.svc.active.comm.lineAction k = .notice
      ∧ ((s.svc.active.comm.lineMode k = .high ∧ (s.trip.filter k).taken = some true)
        ∨ (s.svc.active.comm.lineMode k = .low ∧ (s.trip.filter k).taken = some false))
  | .chillFault => s.engine.chill.exitFault = true ∨ s.engine.chill.supply = true
  | .storeInvalid => s.nv.marker = false ∧ s.svc.writing = none
  | .cycleIrregular | .overrun | .permitLost | .permitTimeout | .storeFail => False

/-! ### The queue and local time -/

/-- A step takes the command at the front of the queue and runs it on the state with the queue's rest. -/
def Obligations.StepTakesTheFrontCommand : Prop :=
  ∀ (c : Instr) (s : State), step { s with pending := c :: s.pending } = exec c s

/-- No command stops the part, and none touches the queue. -/
def Obligations.EveryCommandHasANextState : Prop :=
  ∀ (c : Instr) (s : State), ∃ t, exec c s = .next t ∧ t.pending = s.pending

/-- Local time: it stands while LOADING (R15); otherwise it moves to `time` and not back, the running timers of the
Supervisor and the purge timer run down by what has passed, and the filters' stability timers run on. That the commands
carry the time is the MODEL's choice (assumption 7). -/
def Obligations.LocalTimePasses : Prop :=
  ∀ (s : State) (time : Nat),
    ChangesOnly s (s.advanceTo time) [.localTime, .sup, .trip]
      ∧ (s.svc.node = .loading → s.advanceTo time = s)
      ∧ (s.svc.node ≠ .loading →
          (s.advanceTo time).localTime = max s.localTime time
            ∧ (s.advanceTo time).sup =
                { s.sup with
                  warnTimer := s.sup.warnTimer.map (· - (time - s.localTime))
                  lossTimer := s.sup.lossTimer.map (· - (time - s.localTime)) }
            ∧ (s.advanceTo time).trip =
                { s.trip with
                  purgeTimer := s.trip.purgeTimer.map (· - (time - s.localTime))
                  filters := s.trip.filters.map fun f => { f with stable := f.stable + (time - s.localTime) } })

/-! ### Resets and load -/

/-- Every kind of reset gives every block its reset values, makes the node LOADING, sets its own cause (power-on alone
discards the causes held), and keeps the Parameter Store and the levels at the terminals (R178, R1, R42, R146). When
RESET_N returns high, load begins and each port takes the link state its physical layer reports. The MODEL's choices in
it: a transmission cut short takes back the last frame sent (assumption 12), a power-on takes back none
(assumption 42), a power-on with RESET_N low stays held with its ports DOWN (assumption 24), local time stands at 0 until
the end of load (assumption 7), and LINE's reset is the one that an accepted LINE_RESET has made due (assumption 15), and
another reset before it discards it (assumption 41). -/
def Obligations.ResetsRestoreEveryBlock : Prop :=
  (∀ (s : State) (c : Instr) (causes : BitVec 3) (resetN : Bool) (sent : List EthFrame),
    (c = .powerOn ∧ causes = 1 ∧ resetN = s.pins.resetN ∧ sent = s.sent)
      ∨ (∃ cut, c = .localReset cut ∧ causes = s.svc.resetCauses ||| 2 ∧ resetN = false
            ∧ sent = if cut then s.sent.dropLast else s.sent)
      ∨ (c = .lineResetTakesEffect ∧ s.svc.lineResetDue = true ∧ causes = s.svc.resetCauses ||| 4
            ∧ resetN = s.pins.resetN ∧ sent = s.sent) →
    ∃ t, exec c s = .next t
      ∧ t.sup = .reset ∧ t.engine = .reset ∧ t.trip = .reset ∧ t.svc = .reset causes
      ∧ t.port = ⟨resetN && s.pins.phyIn, resetN && s.pins.phyOut, .reset, 0, 0⟩
      ∧ t.pins = { s.pins with resetN := resetN, heatRequest := false, tripLine := true, alertLine := false }
      ∧ t.localTime = 0 ∧ t.sent = sent
      ∧ ChangesOnly s t [.port, .sup, .engine, .trip, .svc, .pins, .localTime, .sent])
    ∧ ∀ s : State, s.pins.resetN = false →
        exec .localResetRelease s =
          .next { s with
            pins := { s.pins with resetN := true }
            port := { s.port with inUp := s.pins.phyIn, outUp := s.pins.phyOut } }

/-- The reset values item by item: the output set (Table 1.2), the Cycle Supervisor (Table 2.1), the whole Schedule Engine
(Table 3.6, with Tables 4.1, 5.1, 6.1, 7.1 and 8.1), the published view's reset image but for the three items Table 3.6
does not name (assumption 35), the trip record (Table 10.1; a line with no level taken is not active in any mode) and the
Service Handler's items (R178). -/
def Obligations.ResetValuesOfTheTables : Prop :=
  (OutputSet.reset.fire = [0, 0, 0, 0, 0, 0] ∧ OutputSet.reset.fan = [0, 0, 0, 0, 0, 0] ∧ OutputSet.reset.exhaust = 0
      ∧ OutputSet.reset.valve = [0, 0, 0, 0, 0, 0, 0, 0] ∧ OutputSet.reset.status = ⟨.cold, .loading, true, false⟩
      ∧ OutputSet.reset.gate = ⟨.none, 0, none⟩ ∧ OutputSet.reset.alert = 0)
    ∧ (Supervisor.reset.anchored = false ∧ Supervisor.reset.lastNumber = 0 ∧ Supervisor.reset.lastTime = 0
      ∧ Supervisor.reset.warnTimer = none ∧ Supervisor.reset.lossTimer = none ∧ Supervisor.reset.linkWarn = false
      ∧ Supervisor.reset.lateCount = 0)
    ∧ (TripUnit.reset.latch = false ∧ TripUnit.reset.causes = 0 ∧ TripUnit.reset.firstCause = none
      ∧ TripUnit.reset.tripMark = false ∧ TripUnit.reset.flushMark = false ∧ TripUnit.reset.purgeTimer = none
      ∧ TripUnit.reset.purgeDone = false ∧ TripUnit.reset.breakCell = false
      ∧ ∀ k < 4, (TripUnit.reset.filter k).taken = none
          ∧ ∀ mode : LineMode, mode.active (TripUnit.reset.filter k).taken = false)
    ∧ (let e := Engine.reset
      e.flight = none
        ∧ e.samples =
          { webSpeed := .absent, speedRef := .absent, modeRequest := .absent, inkCoverage := .absent, splice := .absent
            breakCell := .absent, airTemp := [.absent, .absent, .absent, .absent, .absent, .absent]
            exitWebTemp := .absent, lel := .absent, chillSupply := .absent, chillExit := .absent }
        ∧ e.speed = { lastValid := 0, v := 0, vs := 0, hold := 0, invalid := false }
        ∧ e.dryer =
          { state := .cold, held := .off, permitTimer := none, settleTimer := none, runConfirm := none, holdDelay := none
            holdLimit := none, retryBlock := false, modeFinding := false, recipeFinding := false }
        ∧ (∀ z < 6, e.zone z =
          { state := .off, setpoint := 0, integ := 0, lastFire := 0, lastAir := 0, hold := 0, inBand := false
            overTemp := false, faulted := false })
        ∧ e.exhaust = { lastLel := 0, hold := 0, alarm := false, level := false }
        ∧ e.track = { odometer := 0, residue := 0, anchored := false, nextMark := 0, nextSeq := 0, records := [] }
        ∧ e.counters = { admitted := 0, good := 0, waste := 0, reasons := [0, 0, 0, 0, 0, 0, 0, 0, 0, 0] }
        ∧ e.chill = { stand := .idle, integ := 0, hold := 0, exitFault := false, supply := false }
        ∧ e.working = .reset)
    ∧ (let w := Engine.reset.view
      w.publication = 0 ∧ w.number = 0 ∧ w.node = .loading ∧ w.v = 0 ∧ w.vs = 0 ∧ w.dryer = .cold
        ∧ w.zones = [.off, .off, .off, .off, .off, .off] ∧ w.stand = .idle ∧ w.complete = false
        ∧ w.zoneTag = 0 ∧ w.exhaustTag = 0 ∧ w.chillTag = 0 ∧ w.doseTag = 0
        ∧ w.latch = false ∧ w.causes = 0 ∧ w.firstCause = none ∧ w.latched = 0 ∧ w.present = 0
        ∧ w.pendingSet = ⟨false, false, false, false, false⟩ ∧ w.clearPending = false
        ∧ w.writing = false ∧ w.result = .none ∧ w.resetCauses = 0 ∧ w.inUp = false ∧ w.outUp = false
        ∧ w.records = [] ∧ w.odometer = 0 ∧ w.anchored = false
        ∧ w.counters = ⟨0, 0, 0, [0, 0, 0, 0, 0, 0, 0, 0, 0, 0]⟩
        ∧ w.fcsFailed = 0 ∧ w.malformed = 0 ∧ w.lateCount = 0)
    ∧ (∀ causes, (Handler.reset causes).node = .loading ∧ (Handler.reset causes).latched = 0
      ∧ (Handler.reset causes).enable = 0 ∧ (Handler.reset causes).pendingSet = .empty
      ∧ (Handler.reset causes).clearPending = false ∧ (Handler.reset causes).writing = none
      ∧ (Handler.reset causes).result = .none ∧ (Handler.reset causes).active.recipe = .blank
      ∧ (Handler.reset causes).shadow.recipe = .blank ∧ (Handler.reset causes).resetCauses = causes)
    ∧ (∀ ws ∈ [Recipe.blank.zoneCurves, Recipe.blank.exhaustCurve, Recipe.blank.chillCurves, Recipe.blank.doseWindows],
        ∀ i, item ws i = 0)
    ∧ State.reset.svc.resetCauses = 1

/-- Load ends (R173, R159, R151): both copies of the commissioning tables are the store's image with the marker valid
and the built-in defaults with it invalid; the node is OPERATE or CONFIG accordingly; STORE_INVALID is latched in the
second case alone; local time starts from 0; the restart trip sets the latch; the filters begin, with no level taken yet
whatever their filter times, which for a filter time of 0 is the MODEL's choice (assumption 18: the first take is a
command of its own). The built-in defaults item by item (Tables 2.2, 4.6, 5.7, 5.8, 6.3, 7.3, 8.5 and 10.4). -/
def Obligations.LoadEndStartsThePart : Prop :=
  (let d := Commissioning.defaults;
    d.node = [0, 2000, 50, 150, 20, 50, 200, 500]
      ∧ d.cellMap.length = 64 ∧ (∀ w ∈ d.cellMap, w = 0)
      ∧ d.geometry =
        [0, 1, 0, 0, 100, 0, 0, 0, 0, 0, 0, 0, 0, 0, 0, 0, 0, 0, 0, 0, 0, 0, 0, 0, 0]
      ∧ d.limits.take 19 = [1000, 50, 50, 0, 0, 300, 0, 0, 10, 20, 0, 2, 30, 10, 0, 1, 1, 0, 50]
      ∧ (∀ z < 6, (d.limits.drop (19 + 9 * z)).take 9 = [500, 0, 0, 0, 0, 0, 0, 0, 0]) ∧ d.limits.length = 73
      ∧ d.inputLines = [0, 0, 0, 0, 0, 0, 0, 0, 0, 0, 0, 0]
      ∧ (∀ z < 6, (d.zoneTuning.drop (5 * z)).take 5 = [0, 0, 1, 1, 1]) ∧ d.zoneTuning.length = 30
      ∧ d.chillTuning = [0, 0, 0, 0, 0, 0, 0, 0, 0, 0, 0, 0, 0, 0, 0, 0, 0, 0, 0, 0])
    ∧ ∀ s : State, s.svc.node = .loading → s.pins.resetN = true → s.trip.latch = false →
    ∃ t, exec .loadEnd s = .next t
      ∧ (s.nv.marker = true →
          t.svc = { s.svc with
            active := ⟨s.nv.image, s.svc.active.recipe⟩
            shadow := ⟨s.nv.image, s.svc.shadow.recipe⟩
            node := .operate
            defaultsActive := false
            latched := s.svc.latched ||| Flag.trip.mask })
      ∧ (s.nv.marker = false →
          t.svc = { s.svc with
            active := ⟨.defaults, s.svc.active.recipe⟩
            shadow := ⟨.defaults, s.svc.shadow.recipe⟩
            node := .config
            defaultsActive := true
            latched := s.svc.latched ||| Flag.storeInvalid.mask ||| Flag.trip.mask })
      ∧ t.trip =
          { s.trip with
            latch := true
            causes := 0x200
            firstCause := some .restart
            tripMark := true
            flushMark := true
            purgeTimer := some t.svc.active.comm.purgeTime
            purgeDone := false
            filters := [⟨none, 0⟩, ⟨none, 0⟩, ⟨none, 0⟩, ⟨none, 0⟩] }
      ∧ t.pins = { s.pins with heatRequest := false, tripLine := true, alertLine := (t.svc.latched &&& t.svc.enable) != 0 }
      ∧ t.localTime = 0
      ∧ ChangesOnly s t [.svc, .trip, .pins, .localTime]

/-! ### Ports and frames -/

/-- A port that is not held in reset follows its physical layer's reports; held in reset it stays as it is (R1). The
loss of the IN link counts the frame it cuts short, but for LOADING; the loss of the OUT link loses the frame it cuts
short (Table 1.1, R5). -/
def Obligations.PortsFollowThePhysicalLayer : Prop :=
  ∀ s : State,
    (∃ t, exec (.portLinkUp .ringIn) s = .next t ∧ t.pins = { s.pins with phyIn := true }
        ∧ t.port = { s.port with inUp := s.pins.resetN || s.port.inUp } ∧ ChangesOnly s t [.port, .pins])
      ∧ (∃ t, exec (.portLinkUp .ringOut) s = .next t ∧ t.pins = { s.pins with phyOut := true }
        ∧ t.port = { s.port with outUp := s.pins.resetN || s.port.outUp } ∧ ChangesOnly s t [.port, .pins])
      ∧ (∀ cut, ∃ t, exec (.portLinkDown .ringIn cut) s = .next t ∧ t.pins = { s.pins with phyIn := false }
        ∧ t.port =
            { s.port with
              inUp := !s.pins.resetN && s.port.inUp
              fcsFailed :=
                if cut = true ∧ s.port.inUp = true ∧ s.svc.node ≠ .loading then s.port.fcsFailed + 1
                else s.port.fcsFailed }
        ∧ ChangesOnly s t [.port, .pins])
      ∧ (∀ cut, ∃ t, exec (.portLinkDown .ringOut cut) s = .next t ∧ t.pins = { s.pins with phyOut := false }
        ∧ t.port = { s.port with outUp := !s.pins.resetN && s.port.outUp }
        ∧ t.sent = (if cut = true ∧ s.port.outUp = true then s.sent.dropLast else s.sent)
        ∧ ChangesOnly s t [.port, .pins, .sent])

/-- A frame that arrives on port OUT is dropped: nothing is forwarded, processed or counted (R2). That local time moves on
to the frame's arrival is the MODEL's choice (assumption 7). -/
def Obligations.FrameOnPortOutIsDropped : Prop :=
  ∀ (s : State) (time : Nat) (f : EthFrame), exec (.frameArrival .ringOut time f) s = .next (s.advanceTo time)

/-- A frame whose check sequence fails is forwarded unchanged, its check sequence still failing, and counted; its
content has no effect (R3). That local time moves on to the frame's arrival is the MODEL's choice (assumption 7). -/
def Obligations.FcsFailedFrameIsForwarded : Prop :=
  ∀ (s : State) (time : Nat) (f : EthFrame), s.pins.resetN = true → s.port.inUp = true → s.svc.node ≠ .loading →
    f.fcsOk = false →
    ∃ t, exec (.frameArrival .ringIn time f) s = .next t
      ∧ t.port = { s.port with fcsFailed := s.port.fcsFailed + 1 }
      ∧ t.sent = (if s.port.outUp then s.sent ++ [f] else s.sent)
      ∧ ChangesOnly (s.advanceTo time) t [.port, .sent]

/-- Frames that are forwarded unchanged (R4, R5). While LOADING every frame on IN, or dropped where OUT is DOWN, with no
other change. Otherwise a frame that is no line frame, uncounted, and a malformed line frame, counted. Malformed on its
bytes is: fewer of them than a header, a version other than 1, an unknown kind, more than 256 cells or 8 records, cells
in a SERVICE frame, cells that run past the end; and, after any cells and any records that are well formed, a record
whose head or payload runs past the end or that declares more than 16 payload words. -/
def Obligations.FramesThatPassUnchanged : Prop :=
  (∀ (s : State) (time : Nat) (f : EthFrame), s.pins.resetN = true → s.port.inUp = true → s.svc.node = .loading →
    exec (.frameArrival .ringIn time f) s = .next { s with sent := if s.port.outUp then s.sent ++ [f] else s.sent })
    ∧ (∀ (s : State) (time : Nat) (f : EthFrame), s.pins.resetN = true → s.port.inUp = true → s.svc.node ≠ .loading →
    f.fcsOk = true → f.etherType ≠ 0x89A2 ∨ parseFrame f.payload = none →
    ∃ t, exec (.frameArrival .ringIn time f) s = .next t
      ∧ t.port =
          { s.port with malformed := if f.etherType = 0x89A2 then s.port.malformed + 1 else s.port.malformed }
      ∧ t.sent = (if s.port.outUp then s.sent ++ [f] else s.sent)
      ∧ ChangesOnly (s.advanceTo time) t [.port, .sent])
    ∧ (∀ bs : List Byte,
    bs.length < 9
      ∨ bs.getD 0 0 ≠ 1
      ∨ (bs.getD 1 0 ≠ 1 ∧ bs.getD 1 0 ≠ 2)
      ∨ 256 < (bs.getD 6 0).toNat * 256 + (bs.getD 7 0).toNat
      ∨ 8 < (bs.getD 8 0).toNat
      ∨ (bs.getD 1 0 = 2 ∧ (bs.getD 6 0).toNat * 256 + (bs.getD 7 0).toNat ≠ 0)
      ∨ bs.length < 9 + 3 * ((bs.getD 6 0).toNat * 256 + (bs.getD 7 0).toNat) →
    parseFrame bs = none)
    ∧ ∀ (f : LineFrame) (declared : Byte) (bad : List Byte), f.wellFormed = true → f.records.length < declared.toNat →
    bad.length < 20 ∨ 16 < (bad.getD 15 0).toNat ∨ bad.length < 20 + 4 * (bad.getD 15 0).toNat →
    parseFrame
      ([1, f.kind.code] ++ natToBytes 4 f.number.toNat ++ natToBytes 2 f.cells.length ++ [declared]
        ++ f.cells.flatMap cellBytes ++ f.records.flatMap recordBytes ++ bad) = none

/-- The `n` bytes of a number, the most significant first (12_formats.md). -/
def bigEndian (n v : Nat) : List (BitVec 8) := (List.range n).map fun i => BitVec.ofNat 8 (v / 256 ^ (n - 1 - i))

/-- The bytes of a service record (Table 12.2): mode, kind, table id, option, address, index, count, status, reason, payload
length, view, payload words. -/
def recordLayout (r : Record) : List (BitVec 8) :=
  [r.mode, r.kind, r.table, r.option] ++ bigEndian 6 r.address.toNat ++ bigEndian 2 r.index.toNat
    ++ [r.count, r.status, r.reason, BitVec.ofNat 8 r.payload.length] ++ bigEndian 4 r.view.toNat
    ++ r.payload.flatMap fun w => bigEndian 4 w.toNat

/-- The bytes of a line frame (Table 12.1): version, kind, cycle number, cell count, record count; of each cell its value and
quality; the records; what follows the lanes. -/
def frameLayout (f : LineFrame) : List (BitVec 8) :=
  [1, if f.kind = .cycle then 1 else 2] ++ bigEndian 4 f.number.toNat ++ bigEndian 2 f.cells.length
    ++ [BitVec.ofNat 8 f.records.length] ++ (f.cells.flatMap fun c => bigEndian 2 c.value.toNat ++ [c.quality])
    ++ f.records.flatMap recordLayout ++ f.padding

/-- Writing a line frame and reading it agree: every field of every cell and record comes back, with every value the
format admits, and its bytes lie as Tables 12.1 and 12.2 give them (R179). -/
def Obligations.ParseOfFrameBytes : Prop :=
  ∀ f : LineFrame, f.cells.length ≤ 256 → f.records.length ≤ 8 → (f.kind = .service → f.cells = []) →
    (∀ r ∈ f.records, r.payload.length ≤ 16) →
    f.wellFormed = true ∧ parseFrame (frameBytes f) = some f ∧ frameBytes f = frameLayout f

/-- Reading a line frame loses no byte: written again it is the same bytes, so what the part does not write leaves as it
arrived (R4, R9, R180). -/
def Obligations.FrameBytesOfParse : Prop :=
  ∀ (bs : List Byte) (f : LineFrame), parseFrame bs = some f → frameBytes f = bs

/-- An arrival that is not captured (R18 to R20): EARLY latches CYCLE_IRREGULAR, DUPLICATE latches nothing, OVERRUN
latches OVERRUN; the engine and the Supervisor are as before but for the time that has passed, and the active tables and
pending items stand. With no records in the lane the Service Handler changes by that flag alone. -/
def Obligations.UncapturedArrivals : Prop :=
  ∀ (s : State) (time : Nat) (frame : EthFrame) (f : LineFrame) (flag : BitVec 16),
    s.pins.resetN = true → s.port.inUp = true → s.svc.node ≠ .loading → frame.fcsOk = true →
    frame.etherType = 0x89A2 → parseFrame frame.payload = some f → f.kind = .cycle →
    (s.sup.anchored = true ∧ time - s.sup.lastTime < s.svc.active.comm.earlyLimit ∧ flag = Flag.cycleIrregular.mask)
      ∨ (s.sup.anchored = true ∧ s.svc.active.comm.earlyLimit ≤ time - s.sup.lastTime ∧ f.number = s.sup.lastNumber
            ∧ flag = 0)
      ∨ (s.engine.flight.isSome = true
            ∧ (s.sup.anchored = false
                ∨ (s.svc.active.comm.earlyLimit ≤ time - s.sup.lastTime ∧ f.number ≠ s.sup.lastNumber))
            ∧ flag = Flag.overrun.mask) →
    ∃ t, exec (.frameArrival .ringIn time frame) s = .next t
      ∧ t.engine = s.engine ∧ t.sup = (s.advanceTo time).sup ∧ t.port = s.port
      ∧ t.svc.active = s.svc.active
      ∧ (f.records = [] → t.svc = { s.svc with latched := s.svc.latched ||| flag } ∧ t.trip = (s.advanceTo time).trip
          ∧ t.nv = s.nv)

/-- A frame out of order, or late, latches CYCLE_IRREGULAR at its capture: the GAP and LATE findings (R21), which are made
of an anchored Supervisor alone. -/
def irregular (s : State) (number : BitVec 32) (time : Nat) : Prop :=
  s.sup.anchored = true
    ∧ (number ≠ s.sup.lastNumber + 1 ∨ s.svc.active.comm.lateLimit < time - s.sup.lastTime)

/-- The qualifying changes of a break line's mode (R152, Table 10.3), by the taken level before and the level taken. -/
def lineQualifies (mode : LineMode) (old : Option Bool) (level : Bool) : Prop :=
  (mode = .rising ∧ old = some false ∧ level = true) ∨ (mode = .falling ∧ old = some true ∧ level = false)
    ∨ (mode = .both ∧ old = some (!level)) ∨ (mode = .high ∧ level = true) ∨ (mode = .low ∧ level = false)

/-- At a capture that activates `m`, the level of line `k` is stable for its new filter time and not the level taken, so
that it is taken (R151). -/
def lineDue (m : Commissioning) (u : State) (k : Nat) : Prop :=
  m.filterTime k ≤ (u.trip.filter k).stable ∧ (u.trip.filter k).taken ≠ some (u.pins.breakLines.getD k false)

/-- At a capture that activates `m`, line `k` qualifies: its taken level is the active level of its level mode (R154), or
the level it takes qualifies (R152). -/
def lineActs (m : Commissioning) (u : State) (k : Nat) : Prop :=
  (m.lineMode k = .high ∧ (u.trip.filter k).taken = some true)
    ∨ (m.lineMode k = .low ∧ (u.trip.filter k).taken = some false)
    ∨ (lineDue m u k ∧ lineQualifies (m.lineMode k) (u.trip.filter k).taken (u.pins.breakLines.getD k false))

/-- A captured frame (R7, R8, R21, R22, R145): the pending tables become active, whole; a pending clear is carried out;
the Supervisor takes the number and the time, restarts both timers from the NODE now active, and counts a late frame
after the clear; the sample set is formed from this frame by the CELL_MAP now active; the computation begins. A gap or a
late frame latches CYCLE_IRREGULAR, and a frame in order nothing. Where the commissioning tables become active the break
lines are judged under the new INPUT_LINES (R154, R151): a level mode whose taken level is active qualifies, an edge mode
takes its reference, a level stable for the new filter time is taken, and each line that qualifies acts. That R154's
judgement comes before R151's takes is the MODEL's reading (assumption 17); which tripping line is the first cause is left
open (assumption 2). -/
def Obligations.CaptureAppliesThePending : Prop :=
  ∀ (s : State) (time : Nat) (frame : EthFrame) (f : LineFrame),
    s.pins.resetN = true → s.port.inUp = true → s.svc.node ≠ .loading → frame.fcsOk = true →
    frame.etherType = 0x89A2 → parseFrame frame.payload = some f → f.kind = .cycle → s.engine.flight = none →
    s.sup.anchored = false
      ∨ (s.svc.active.comm.earlyLimit ≤ time - s.sup.lastTime ∧ f.number ≠ s.sup.lastNumber) →
    ∃ t, exec (.frameArrival .ringIn time frame) s = .next t
      ∧ t.svc.active.comm = (if s.svc.pendingSet.comm then s.svc.shadow.comm else s.svc.active.comm)
      ∧ t.svc.active.recipe.zoneCurves =
          (if s.svc.pendingSet.zoneCurves then s.svc.shadow.recipe.zoneCurves else s.svc.active.recipe.zoneCurves)
      ∧ t.svc.active.recipe.exhaustCurve =
          (if s.svc.pendingSet.exhaustCurve then s.svc.shadow.recipe.exhaustCurve else s.svc.active.recipe.exhaustCurve)
      ∧ t.svc.active.recipe.chillCurves =
          (if s.svc.pendingSet.chillCurves then s.svc.shadow.recipe.chillCurves else s.svc.active.recipe.chillCurves)
      ∧ t.svc.active.recipe.doseWindows =
          (if s.svc.pendingSet.doseWindows then s.svc.shadow.recipe.doseWindows else s.svc.active.recipe.doseWindows)
      ∧ t.sup =
          { anchored := true
            lastNumber := f.number
            lastTime := time
            warnTimer := some t.svc.active.comm.warnTime
            lossTimer := some t.svc.active.comm.lossTime
            linkWarn := false
            lateCount := (if s.svc.clearPending then 0 else s.sup.lateCount)
              + (if s.sup.anchored = true ∧ s.svc.active.comm.lateLimit < time - s.sup.lastTime then 1 else 0) }
      ∧ t.engine =
          { s.engine with
            samples := sampleSet t.svc.active.comm f.cells
            counters :=
              if s.svc.clearPending then
                ⟨BitVec.ofNat 32 s.engine.track.records.length, 0, 0, [0, 0, 0, 0, 0, 0, 0, 0, 0, 0]⟩
              else s.engine.counters
            flight := some ⟨.speed, f.number, s.svc.pendingSet.comm,
              if s.svc.pendingSet.comm then .operate else s.svc.node, false, []⟩ }
      ∧ t.port = { s.port with
          fcsFailed := if s.svc.clearPending then 0 else s.port.fcsFailed
          malformed := if s.svc.clearPending then 0 else s.port.malformed }
      ∧ (f.records = [] →
          t.svc =
              { s.svc with
                active := t.svc.active
                node := if s.svc.pendingSet.comm then .operate else s.svc.node
                defaultsActive := s.svc.defaultsActive && !s.svc.pendingSet.comm
                pendingSet := .empty
                clearPending := false
                latched := t.svc.latched }
            ∧ ChangesOnly (s.advanceTo time) t [.sup, .engine, .port, .svc, .trip, .pins, .sent, .choices]
            ∧ (s.svc.pendingSet.comm = false → t.trip = (s.advanceTo time).trip
                ∧ ∀ fl : Flag, hasFlag t.svc.latched fl = true ↔
                    hasFlag s.svc.latched fl = true ∨ (fl = .cycleIrregular ∧ irregular s f.number time))
            ∧ (s.svc.pendingSet.comm = true → s.trip.filters.length = 4 →
                let m := s.svc.shadow.comm
                let u := s.advanceTo time
                let trips (k : Nat) : Prop := lineActs m u k ∧ m.lineAction k = .trip
                (∀ k < 4, (lineDue m u k → (t.trip.filter k).taken = some (s.pins.breakLines.getD k false))
                    ∧ (¬ lineDue m u k → (t.trip.filter k).taken = (s.trip.filter k).taken)
                    ∧ (t.trip.filter k).stable = (u.trip.filter k).stable)
                  ∧ ((∀ k < 4, ¬ trips k) → t.trip = { u.trip with filters := t.trip.filters })
                  ∧ (∀ k < 4, trips k →
                      t.trip.latch = true ∧ t.trip.causes.getLsbD k = true
                        ∧ t.trip.purgeTimer = some m.purgeTime ∧ t.trip.purgeDone = false
                        ∧ t.trip.tripMark = (!s.trip.latch || s.trip.tripMark)
                        ∧ t.trip.flushMark = (!s.trip.latch || s.trip.flushMark)
                        ∧ (s.trip.latch = true → t.trip.firstCause = s.trip.firstCause)
                        ∧ (s.trip.latch = false →
                            ∃ j : Fin 4, trips j ∧ t.trip.firstCause = some (.breakLine j))
                        ∧ ∀ b, t.trip.causes.getLsbD b = true ↔
                            (s.trip.latch = true ∧ s.trip.causes.getLsbD b = true) ∨ (b < 4 ∧ trips b))
                  ∧ t.trip.breakCell = s.trip.breakCell
                  ∧ ∀ fl : Flag, hasFlag t.svc.latched fl = true ↔
                      hasFlag s.svc.latched fl = true ∨ (fl = .cycleIrregular ∧ irregular s f.number time)
                        ∨ (fl = .trip ∧ ∃ k < 4, trips k)
                        ∨ (fl = .notice ∧ ∃ k < 4, lineActs m u k ∧ m.lineAction k = .notice)))

/-- An entry of CELL_MAP pairs channel `ch` with cell `i`: the channel code in its bits 15–0, the cell index in its bits
31–16 (Table 12.5). It is the first that names the channel, and in a map that LEAVE_CONFIG accepts the only one (R13). -/
def inputEntry (c : Commissioning) (ch i : Nat) : Prop :=
  ∃ k < 64, item c.cellMap k % 65536 = ch ∧ item c.cellMap k / 65536 = i ∧ ∀ j < k, item c.cellMap j % 65536 ≠ ch

/-- The sample set of a capture (R8): the cell of a channel is the one that its CELL_MAP entry names (Table 12.5); an
unmapped channel, or one whose cell the frame does not carry, is ABSENT; a GOOD or HELD cell is VALID with its signed
16-bit value; any other quality is INVALID. Each entry is that of its own channel code (Table 12.3). -/
def Obligations.SamplesAreFormedFromCells : Prop :=
  ∀ (c : Commissioning) (cells : List Cell),
    (∀ ch i : Nat, c.cellOf ch = some i ↔ inputEntry c ch i)
      ∧ (∀ channel : Nat,
      (c.cellOf channel = none → channelSample c cells channel = .absent)
        ∧ ∀ i, c.cellOf channel = some i →
            (cells.length ≤ i → channelSample c cells channel = .absent)
              ∧ ∀ v q, cells[i]? = some ⟨v, q⟩ →
                  ((q = 1 ∨ q = 2) → channelSample c cells channel = .valid v.toInt)
                    ∧ (q ≠ 1 → q ≠ 2 → channelSample c cells channel = .invalid))
      ∧ let e := sampleSet c cells
        e.webSpeed = channelSample c cells 1 ∧ e.speedRef = channelSample c cells 2
          ∧ e.modeRequest = channelSample c cells 3 ∧ e.inkCoverage = channelSample c cells 4
          ∧ e.splice = channelSample c cells 5 ∧ e.breakCell = channelSample c cells 6
          ∧ (∀ z < 6, e.air z = channelSample c cells (7 + z))
          ∧ e.exitWebTemp = channelSample c cells 13 ∧ e.lel = channelSample c cells 14
          ∧ e.chillSupply = channelSample c cells 15 ∧ e.chillExit = channelSample c cells 16

/-- An entry of CELL_MAP pairs cell `i` with the output channel `ch` (codes 32 to 55, Tables 12.3 and 12.5). It is the first
that does, and in a map that LEAVE_CONFIG accepts the only one (R13). -/
def outputEntry (c : Commissioning) (i ch : Nat) : Prop :=
  ∃ k < 64, item c.cellMap k % 65536 = ch ∧ item c.cellMap k / 65536 = i ∧ 32 ≤ ch ∧ ch ≤ 55
    ∧ ∀ j < k, item c.cellMap j / 65536 = i → item c.cellMap j % 65536 < 32 ∨ 55 < item c.cellMap j % 65536

/-- The 16 bits that the cell of an output channel carries, from the read side (R9, R10, Tables 12.3 and 12.4): codes 32–37
FIRE, 38–43 FAN, 44 EXHAUST, 45–52 CHILL_VALVE, 53 DRYER_STATUS, 54 GATE, 55 ALERT_CELL. -/
def outputBits (a : State) (ch : Nat) (v : BitVec 16) : Prop :=
  let o := a.port.readSide
  (∀ z < 6, ch = 32 + z →
      v = BitVec.ofInt 16 (if a.trip.latch then 0 else max 0 (min (o.fire.getD z 0) (a.svc.active.comm.maxFire z))))
    ∧ (∀ z < 6, ch = 38 + z → v = BitVec.ofInt 16 (o.fan.getD z 0))
    ∧ (ch = 44 → v = BitVec.ofInt 16 o.exhaust)
    ∧ (∀ r < 8, ch = 45 + r → v = BitVec.ofInt 16 (o.valve.getD r 0))
    ∧ (ch = 53 → v = BitVec.ofNat 16 (dryerNumber o.status.dryer + 2 ^ 3 * nodeNumber o.status.node
        + 2 ^ 5 * yesNumber o.status.latch + 2 ^ 6 * yesNumber o.status.complete))
    ∧ (ch = 54 → v = BitVec.ofNat 16
        (verdictNumber o.gate.verdict + 2 ^ 2 * o.gate.count + 2 ^ 5 * reasonNumber o.gate.reason))
    ∧ (ch = 55 → v = o.alert)

/-- A processed frame leaves on OUT, or is dropped where OUT is DOWN, with a fresh valid check sequence, its header's
number and its padding as they arrived (R6, R1). Of a CYCLE frame a cell that a CELL_MAP entry pairs with an output channel
carries that channel's value (outputBits) and quality GOOD, and every other cell is as it arrived (R9); its records are
those the service lane leaves after the capture, and the part is as the service lane leaves it. A SERVICE frame is no arrival and no capture: no
cell is written, its records are served by the part as it stands, and it is forwarded. That the map, the tables and the
latch that write a frame's cells are those its own capture has left is the MODEL's reading (assumption 16), and that a
frame is processed in one step its choice (assumption 11). -/
def Obligations.OutputCellsLeaveInTheFrame : Prop :=
  ∀ (s : State) (time : Nat) (frame : EthFrame) (f : LineFrame),
    s.pins.resetN = true → s.port.inUp = true → s.svc.node ≠ .loading → frame.fcsOk = true →
    frame.etherType = 0x89A2 → parseFrame frame.payload = some f →
    (f.kind = .cycle →
        let a := (s.advanceTo time).arrival f.number f.cells time
        let served := serveLane f.records a
        ∃ cells, exec (.frameArrival .ringIn time frame) s =
            .next { served.1 with
              sent :=
                if s.port.outUp then
                  s.sent ++ [⟨true, 0x89A2, frameBytes ⟨.cycle, f.number, cells, served.2, f.padding⟩⟩]
                else s.sent }
          ∧ cells.length = f.cells.length
          ∧ ∀ i cell, f.cells[i]? = some cell →
              cells[i]? = some (a.writeCell i cell)
                ∧ ((∀ ch, ¬ outputEntry a.svc.active.comm i ch) → cells[i]? = some cell)
                ∧ ∀ ch, outputEntry a.svc.active.comm i ch → ∃ v, outputBits a ch v ∧ cells[i]? = some ⟨v, 1⟩)
      ∧ (f.kind = .service →
        let served := serveLane f.records (s.advanceTo time)
        f.cells = []
          ∧ exec (.frameArrival .ringIn time frame) s =
            .next { served.1 with
              sent :=
                if s.port.outUp then
                  s.sent ++ [⟨true, 0x89A2, frameBytes ⟨.service, f.number, [], served.2, f.padding⟩⟩]
                else s.sent })

/-- Every FIRE cell carries a value from 0 to the zone's max fire: 0 while the trip latch is set, and otherwise the read
side's value bounded to that range (R10). The premise
is the invariant ActiveCopiesStayAccepted, which keeps a max fire within 16 bits. -/
def Obligations.FireCellsAreBounded : Prop :=
  ∀ (s : State) (i z : Nat) (cell : Cell), s.TablesAccepted → z < 6 →
    outputEntry s.svc.active.comm i (32 + z) →
    (s.writeCell i cell).quality = 1
      ∧ 0 ≤ (s.writeCell i cell).value.toInt
      ∧ (s.writeCell i cell).value.toInt ≤ s.svc.active.comm.maxFire z
      ∧ (s.trip.latch = true → (s.writeCell i cell).value = 0)
      ∧ (s.trip.latch = false →
          (s.writeCell i cell).value.toInt = max 0 (min (s.port.readSide.fire.getD z 0) (s.svc.active.comm.maxFire z)))

/-- A record asks for service and addresses this part (R162). -/
def addressedHere (s : State) (r : Record) : Prop :=
  r.status = 0
    ∧ ((r.mode = 1 ∧ r.address.toNat = s.svc.active.comm.station ∧ s.svc.active.comm.station ≠ 0)
        ∨ (r.mode = 2 ∧ r.address = Config.serialNumber))

/-- The command that serves a record of each kind (Table 12.2), at the local time of the part. -/
def commandOf (r : Record) (time : Nat) : Option Instr :=
  let q : Request := ⟨r.table, r.option, r.index, r.count, r.payload⟩
  match r.kind.toNat with
  | 1 => some (.read q)
  | 2 => some (.write q)
  | 3 => some (.commit q)
  | 4 => some (.discard q)
  | 5 => some (.enterConfig q)
  | 6 => some (.leaveConfig q)
  | 7 => some (.store q)
  | 8 => some (.clearLatched q)
  | 9 => some (.clearCauses q)
  | 10 => some (.clearCounters q)
  | 11 => some (.tripReset q)
  | 12 => some (.testTrip q time)
  | 13 => some (.lineReset q)
  | _ => none

/-- The service lane (R162, R163, R177, R180). Records are taken in lane order: one that does not ask for service or
addresses another node is left as it arrived; one addressed here of an unknown kind is refused KIND (status 3, reason 1)
with no effect; one of a known kind has the effect of its command on the part and that command's reply written over its
status, reason, view and payload; and after an accepted LINE_RESET the rest of the lane is left as it arrived. So every
record keeps its address mode, kind, table id, option, address, index and count; and with every copy of every table at
its size, no record changes its length. -/
def Obligations.RecordsKeepTheirOtherBytes : Prop :=
  (∀ s : State, serveLane [] s = (s, []))
    ∧ (∀ (s : State) (r : Record) (rest : List Record), s.svc.node ≠ .loading →
      (¬ addressedHere s r → serveLane (r :: rest) s = ((serveLane rest s).1, r :: (serveLane rest s).2))
        ∧ (addressedHere s r → commandOf r s.localTime = none →
          serveLane (r :: rest) s =
            ((serveLane rest s).1, { r with status := 3, reason := 1, view := 0 } :: (serveLane rest s).2))
        ∧ ∀ c, addressedHere s r → commandOf r s.localTime = some c →
          ∃ (u : State) (reply : Reply), exec c s = .next { u with lastReply := some reply }
            ∧ u.lastReply = s.lastReply ∧
            let answered : Record :=
              { r with
                status := reply.status.code
                reason := reply.status.reasonByte
                view := reply.view
                payload := reply.payload }
            (r.kind = 13 → reply.status = .done → serveLane (r :: rest) s = (u, answered :: rest))
              ∧ (r.kind ≠ 13 ∨ reply.status ≠ .done →
                serveLane (r :: rest) s = ((serveLane rest u).1, answered :: (serveLane rest u).2)))
    ∧ (Status.code .done = 1 ∧ Status.code .accepted = 2 ∧ Status.reasonByte .done = 0 ∧ Status.reasonByte .accepted = 0
      ∧ ∀ why : Reason, Status.code (.refused why) = 3 ∧ Status.reasonByte (.refused why) =
        BitVec.ofNat 8 (1 + [Reason.kind, .table, .range, .readOnly, .state, .busy, .check, .length, .active, .purging].idxOf
          why))
    ∧ ∀ (rs : List Record) (s : State) (i : Nat) (r : Record), rs[i]? = some r →
    ∃ r', (serveLane rs s).2[i]? = some r'
      ∧ r'.mode = r.mode ∧ r'.kind = r.kind ∧ r'.table = r.table ∧ r'.option = r.option ∧ r'.address = r.address
      ∧ r'.index = r.index ∧ r'.count = r.count
      ∧ (r.status ≠ 0 ∨ (r.mode ≠ 1 ∧ r.mode ≠ 2) → r' = r)
      ∧ (s.TablesSized → r'.payload.length = r.payload.length)

/-! ### Cycle Supervisor -/

/-- Silence (R23, R24). The warn timer expires: LINK_WARN is latched and present, and the timer is stopped. The loss timer
expires: the Supervisor is unanchored, both timers are stopped, last number and last time stand, and a trip with cause
LINK arrives: it latches, or joins the causes and restarts the purge. A timer that is stopped, or has time left, does not
expire: the MODEL's reading of such a command, with nothing changed, local time included (assumption 7). -/
def Obligations.SilenceWarnsThenTrips : Prop :=
  (∀ (s : State) (time w : Nat), s.svc.node ≠ .loading → s.sup.warnTimer = some w → w ≤ time - s.localTime →
    ∃ t, exec (.warnExpiry time) s = .next t
      ∧ t.sup = { (s.advanceTo time).sup with warnTimer := none, linkWarn := true }
      ∧ t.svc = { s.svc with latched := s.svc.latched ||| 1 }
      ∧ t.pins = { s.pins with alertLine := ((s.svc.latched ||| 1) &&& s.svc.enable) != 0 }
      ∧ ChangesOnly (s.advanceTo time) t [.sup, .svc, .pins])
    ∧ (∀ (s : State) (time w : Nat), s.svc.node ≠ .loading → s.sup.lossTimer = some w → w ≤ time - s.localTime →
    ∃ t, exec (.lossExpiry time) s = .next t
      ∧ t.sup = { s.sup with anchored := false, warnTimer := none, lossTimer := none }
      ∧ t.trip.latch = true
      ∧ t.trip.causes = (if s.trip.latch then s.trip.causes ||| 0x80 else 0x80)
      ∧ t.trip.firstCause = (if s.trip.latch then s.trip.firstCause else some .link)
      ∧ t.trip.purgeTimer = some s.svc.active.comm.purgeTime ∧ t.trip.purgeDone = false
      ∧ t.svc = { s.svc with latched := s.svc.latched ||| Flag.trip.mask }
      ∧ ChangesOnly (s.advanceTo time) t [.sup, .trip, .svc, .pins])
    ∧ ∀ (s : State) (time : Nat),
      ((∀ w, s.sup.warnTimer = some w → time - s.localTime < w) → exec (.warnExpiry time) s = .next s)
        ∧ ((∀ w, s.sup.lossTimer = some w → time - s.localTime < w) → exec (.lossExpiry time) s = .next s)

/-! ### The cycle computation: curves and speed -/

/-- A curve (R34): at or below the first breakpoint its value, at or beyond the last its value, on any breakpoint that
one's, and between two neighbours the exact product divided toward zero, which lies between their values; one breakpoint
is a constant. A curve without a breakpoint gives 0 (R35). -/
def Obligations.CurveFollowsItsBreakpoints : Prop :=
  (∀ x, curveValue [] x = 0)
    ∧ ∀ (pts : List Breakpoint) (x : Nat), pts.Pairwise (fun a b => a.1 < b.1) →
    (∀ p, pts.head? = some p → x ≤ p.1 → curveValue pts x = p.2)
      ∧ (∀ p, pts.getLast? = some p → p.1 ≤ x → curveValue pts x = p.2)
      ∧ (∀ i p q, pts[i]? = some p → pts[i + 1]? = some q → p.1 < x → x < q.1 →
          curveValue pts x = p.2 + ((q.2 - p.2) * ((x : Int) - p.1)).tdiv ((q.1 : Int) - p.1)
            ∧ min p.2 q.2 ≤ curveValue pts x ∧ curveValue pts x ≤ max p.2 q.2)
      ∧ (∀ p ∈ pts, x = p.1 → curveValue pts x = p.2)
      ∧ (∀ p, pts = [p] → curveValue pts x = p.2)

/-- Stage 1 (R31 to R33): a VALID speed is clamped to 0 to vmax and held; without one the last valid speed stands in for
the hold time, with SPEED_INVALID's present condition unchanged (R32; Table 11.4 reads otherwise after a longer hold:
assumption 38), and past it v is 0 and SPEED_INVALID is latched and present; v_s leads v by f sixteenths of the way to a
VALID reference. The second row of the table (SPEED_HOLD_RUN_OUT) is the same stage where the hold runs out. -/
def Obligations.SpeedStageFormsTheSpeed : Prop :=
  ∀ (s : State) (c : Computation), s.engine.flight = some c → c.stage = .speed →
    ∃ t, exec .speedStage s = .next t
      ∧ (∀ w, s.engine.samples.webSpeed = .valid w →
          (t.engine.speed.v : Int) = max 0 (min w s.svc.active.comm.vmax)
            ∧ t.engine.speed.lastValid = t.engine.speed.v ∧ t.engine.speed.hold = 0
            ∧ t.engine.speed.invalid = false ∧ t.svc = s.svc ∧ t.pins = s.pins)
      ∧ ((∀ w, s.engine.samples.webSpeed ≠ .valid w) →
          t.engine.speed.hold = min (s.engine.speed.hold + s.svc.active.comm.period) 8589934591
            ∧ t.engine.speed.lastValid = s.engine.speed.lastValid
            ∧ (min (s.engine.speed.hold + s.svc.active.comm.period) 8589934591 ≤ s.svc.active.comm.speedHold →
                t.engine.speed.v = min s.engine.speed.lastValid s.svc.active.comm.vmax
                  ∧ t.engine.speed.invalid = s.engine.speed.invalid ∧ t.svc = s.svc ∧ t.pins = s.pins)
            ∧ (s.svc.active.comm.speedHold < min (s.engine.speed.hold + s.svc.active.comm.period) 8589934591 →
                t.engine.speed.v = 0 ∧ t.engine.speed.invalid = true
                  ∧ t.svc = { s.svc with latched := s.svc.latched ||| Flag.speedInvalid.mask }
                  ∧ exec .speedHoldRunOut s = .next t))
      ∧ (∀ r, s.engine.samples.speedRef = .valid r →
          t.engine.speed.vs =
            ((t.engine.speed.v : Int)
              + ((max 0 (min r s.svc.active.comm.vmax) - t.engine.speed.v) * s.svc.active.comm.lead).tdiv 16).toNat)
      ∧ ((∀ r, s.engine.samples.speedRef ≠ .valid r) → t.engine.speed.vs = t.engine.speed.v)
      ∧ t.engine = { s.engine with speed := t.engine.speed, flight := some { c with stage := .dryer } }
      ∧ ChangesOnly s t [.engine, .svc, .pins]

/-! ### The dryer -/

/-- A trip is seen by the step: the latch or the trip mark is set, or BREAK_CELL is asserted (R45, R46). -/
def tripSeen (s : State) : Prop := s.trip.latch = true ∨ s.trip.tripMark = true ∨ s.engine.samples.breakCell.asserted = true

/-- The request as the step leaves it (R44, Table 4.2): a VALID 0, 1 or 2 is taken, and anything else leaves it. -/
def requestNow (s : State) : ModeRequest :=
  if s.engine.samples.modeRequest = .valid 0 then .off
  else if s.engine.samples.modeRequest = .valid 1 then .heat
  else if s.engine.samples.modeRequest = .valid 2 then .produce
  else s.engine.dryer.held

/-- What every dryer step does, whatever row of Table 4.3 it takes (R45, R46, R64, R155): the break-cell finding is what
BREAK_CELL asserts, and an asserted one is a trip with its cause; the trip mark is read and so clear; the request is taken
as Table 4.2 gives, with the mode finding (R44); the retry block clears on OFF and is set by a permit timeout alone (R51);
the recipe finding holds in READY and HOLD on PRODUCE without a complete recipe (R62); the flags of those findings and of
rows 7 and 8 are latched, and no others; the stages that follow keep the node state and permit read; HEAT_REQUEST is formed
anew (R63). The heated states are PREHEAT, READY, RUN and HOLD (Table 0.2), and an entry is asserted where it is VALID and
not 0. -/
def Obligations.DryerStepReadsOnce : Prop :=
  (∀ d : DryerState, d.heated = true ↔ d = .preheat ∨ d = .ready ∨ d = .run ∨ d = .hold)
    ∧ (∀ x : Sample, x.asserted = true ↔ ∃ v, x = .valid v ∧ v ≠ 0)
    ∧ ∀ (s : State) (c : Computation) (time : Nat) (permit : Bool), s.engine.flight = some c → c.stage = .dryer →
    ∃ t, exec (.dryerStep time permit) s = .next t ∧
      let free : Prop := s.svc.node ≠ .config ∧ ¬ tripSeen s ∧ requestNow s ≠ .off
      let d := t.engine.dryer
      (t.trip.breakCell = true ↔ ∃ v, s.engine.samples.breakCell = .valid v ∧ v ≠ 0)
      ∧ (t.trip.breakCell = true → t.trip.latch = true ∧ t.trip.causes.getLsbD 4 = true
          ∧ t.trip = { ((s.advanceTo time).tripArrives .breakCell).trip with tripMark := false, breakCell := true })
      ∧ (t.trip.breakCell = false → t.trip = { (s.advanceTo time).trip with tripMark := false, breakCell := false })
      ∧ t.trip.tripMark = false
      ∧ d.held = requestNow s
      ∧ (∀ v, s.engine.samples.modeRequest = .valid v → (d.modeFinding = true ↔ v ≠ 0 ∧ v ≠ 1 ∧ v ≠ 2))
      ∧ ((∀ v, s.engine.samples.modeRequest ≠ .valid v) → d.modeFinding = s.engine.dryer.modeFinding)
      ∧ (d.retryBlock = true ↔ requestNow s ≠ .off
          ∧ (s.engine.dryer.retryBlock = true
            ∨ (free ∧ s.engine.dryer.state = .preheat ∧ d.state = .cold)))
      ∧ (d.recipeFinding = true ↔ (d.state = .ready ∨ d.state = .hold) ∧ d.held = .produce
          ∧ s.svc.active.recipeComplete = false)
      ∧ (∀ fl : Flag, hasFlag t.svc.latched fl = true ↔
          hasFlag s.svc.latched fl = true
            ∨ (fl = .trip ∧ t.trip.breakCell = true)
            ∨ (fl = .modeInvalid
                ∧ ∃ v, s.engine.samples.modeRequest = .valid v ∧ v ≠ 0 ∧ v ≠ 1 ∧ v ≠ 2)
            ∨ (fl = .recipeMissing ∧ d.recipeFinding = true)
            ∨ (fl = .permitLost ∧ free ∧ permit = false
                ∧ (s.engine.dryer.state = .ready ∨ s.engine.dryer.state = .run ∨ s.engine.dryer.state = .hold))
            ∨ (fl = .permitTimeout ∧ free ∧ s.engine.dryer.state = .preheat ∧ d.state = .cold))
      ∧ t.engine =
          { s.engine with
            dryer := d
            flight := some { c with stage := .zones, node := s.svc.node, permit := permit } }
      ∧ t.pins.heatRequest =
          (t.engine.dryer.state.heated && s.svc.node == .operate && !t.trip.latch)
      ∧ t.svc = { s.svc with latched := t.svc.latched }
      ∧ ChangesOnly (s.advanceTo time) t [.engine, .trip, .svc, .pins]

/-- A timer is reached: it runs and its elapsed time is at or above its setting (R37). -/
def timerReached (timer : Option Nat) (setting : Nat) : Prop := ∃ e, timer = some e ∧ setting ≤ e

/-- Transitions of the dryer step (Table 4.3), the dryer timers being those this step leaves (DryerTimersReached says
which). Rows 1 to 4: a CONFIG node's dryer becomes COLD; a trip seen takes a heated or cooling dryer to PURGE and leaves
COLD and PURGE; without one PURGE becomes COLD. With no trip seen each other state follows the first of its rows that
holds and otherwise stays: COLD row 5, PREHEAT rows 6, 8 and 9, READY rows 6, 7 and 13, RUN rows 6, 7, 10, 11 and 12, HOLD
rows 6, 7, 13 and 14, COOLDOWN rows 15 and 16. The recipe is complete as R61 gives. -/
def Obligations.DryerStepTakesItsRow : Prop :=
  (∀ (s : State) (c : Computation) (time : Nat) (permit : Bool), s.engine.flight = some c → c.stage = .dryer →
    ∃ t, exec (.dryerStep time permit) s = .next t
      ∧ (s.svc.node = .config → t.engine.dryer.state = .cold)
      ∧ (s.svc.node ≠ .config → tripSeen s →
          (s.engine.dryer.state = .cold → t.engine.dryer.state = .cold)
            ∧ (s.engine.dryer.state ≠ .cold → t.engine.dryer.state = .purge))
      ∧ (s.svc.node ≠ .config → ¬ tripSeen s → s.engine.dryer.state = .purge → t.engine.dryer.state = .cold))
    ∧ (∀ (s : State) (c : Computation) (time : Nat) (permit : Bool), s.engine.flight = some c → c.stage = .dryer →
    s.svc.node ≠ .config → ¬ tripSeen s →
    ∃ t, exec (.dryerStep time permit) s = .next t ∧
      let m := s.svc.active.comm
      let old := s.engine.dryer.state
      let d := t.engine.dryer
      d.held = requestNow s
      ∧ (old = .cold → d.state = if requestNow s ≠ .off ∧ s.engine.dryer.retryBlock = false then .preheat else .cold)
      ∧ (old.heated = true → requestNow s = .off → d.state = .cooldown)
      ∧ (old = .preheat → requestNow s ≠ .off →
          (timerReached d.permitTimer m.permitTimeout → d.state = .cold ∧ hasFlag t.svc.latched .permitTimeout = true)
            ∧ (¬ timerReached d.permitTimer m.permitTimeout → timerReached d.settleTimer m.settle → d.state = .ready)
            ∧ (¬ timerReached d.permitTimer m.permitTimeout → ¬ timerReached d.settleTimer m.settle →
                d.state = .preheat))
      ∧ (old.heated = true → old ≠ .preheat → requestNow s ≠ .off → permit = false →
          d.state = .preheat ∧ hasFlag t.svc.latched .permitLost = true)
      ∧ (old = .ready → requestNow s ≠ .off → permit = true →
          (timerReached d.runConfirm m.runConfirm → d.state = .run)
            ∧ (¬ timerReached d.runConfirm m.runConfirm → d.state = .ready))
      ∧ (old = .run → permit = true →
          (requestNow s = .produce → s.svc.active.recipeComplete = false →
              d.state = .hold ∧ hasFlag t.svc.latched .recipeMissing = true)
            ∧ (requestNow s = .heat → d.state = .hold)
            ∧ (requestNow s = .produce → s.svc.active.recipeComplete = true →
              (timerReached d.holdDelay m.holdDelay → d.state = .hold)
                ∧ (¬ timerReached d.holdDelay m.holdDelay → d.state = .run)))
      ∧ (old = .hold → requestNow s ≠ .off → permit = true →
          (timerReached d.runConfirm m.runConfirm → d.state = .run)
            ∧ (¬ timerReached d.runConfirm m.runConfirm →
              (m.holdLimit ≠ 0 → timerReached d.holdLimit m.holdLimit → d.state = .ready)
                ∧ (m.holdLimit = 0 ∨ ¬ timerReached d.holdLimit m.holdLimit → d.state = .hold)))
      ∧ (old = .cooldown →
          (requestNow s ≠ .off → d.state = .preheat)
            ∧ (requestNow s = .off →
              ((∀ z < 6, z < m.zoneCount → ∃ a, s.engine.samples.air z = .valid a ∧ a < m.coolLimit) → d.state = .cold)
                ∧ (∀ z < 6, z < m.zoneCount → (∀ a, s.engine.samples.air z = .valid a → (m.coolLimit : Int) ≤ a) →
                  d.state = .cooldown))))
    ∧ ∀ tb : Tables, tb.recipeComplete = true ↔
        (∀ z < 6, z < tb.comm.zoneCount → 1 ≤ tb.recipe.zonePoints z) ∧ 1 ≤ tb.recipe.exhaustPoints
          ∧ (∀ r < 8, r < tb.comm.rollCount → 1 ≤ tb.recipe.rollPoints r) ∧ tb.recipe.doseTag ≠ 0

/-- A duration timer in one computation (R37), from `old` to `new`: where its condition holds it starts at 0, or runs on
by the period P up to 2^33 − 1 µs; otherwise it stops and keeps no elapsed time. -/
def timerUpdated (old new : Option Nat) (period : Nat) (runs : Prop) : Prop :=
  (runs → old = none → new = some 0)
    ∧ (runs → ∀ e, old = some e → new = some (min (e + period) 8589934591))
    ∧ (¬ runs → new = none)

/-- The elapsed time of a duration timer that runs in this computation (R37). -/
def timerNow (old : Option Nat) (period : Nat) : Nat :=
  match old with
  | none => 0
  | some e => min (e + period) 8589934591

/-- What every step leaves in each dryer timer (R48, Table 4.4), its condition tested against the starting state, the
request taken and the readings of this step. And what a dryer timer reaches in this step, no trip seen (R50, R51, R53 to
R55; Table 4.3, rows 8, 9, 12, 13 and 14): each is a dryer step, and the step it is. That the rows of the opcode table
named by a timer are that dryer step is the MODEL's reading (assumption 9). -/
def Obligations.DryerTimersReached : Prop :=
  (∀ (s : State) (c : Computation) (time : Nat) (permit : Bool), s.engine.flight = some c → c.stage = .dryer →
    ∃ t, exec (.dryerStep time permit) s = .next t ∧
      let old := s.engine.dryer
      let d := t.engine.dryer
      let p := s.svc.active.comm.period
      timerUpdated old.permitTimer d.permitTimer p (old.state = .preheat ∧ permit = false)
        ∧ timerUpdated old.settleTimer d.settleTimer p
            (old.state = .preheat ∧ permit = true
              ∧ ∀ z < 6, z < s.svc.active.comm.zoneCount → (s.engine.zone z).inBand = true)
        ∧ timerUpdated old.runConfirm d.runConfirm p
            ((old.state = .ready ∨ old.state = .hold) ∧ requestNow s = .produce
              ∧ s.svc.active.recipeComplete = true ∧ permit = true
              ∧ s.svc.active.comm.runThreshold ≤ s.engine.speed.v)
        ∧ timerUpdated old.holdDelay d.holdDelay p
            (old.state = .run ∧ s.engine.speed.v < s.svc.active.comm.creep)
        ∧ timerUpdated old.holdLimit d.holdLimit p (old.state = .hold))
    ∧ ∀ (s : State) (c : Computation) (time : Nat), s.engine.flight = some c → c.stage = .dryer →
    s.svc.node ≠ .config → ¬ tripSeen s → requestNow s ≠ .off →
    let m := s.svc.active.comm
    let d := s.engine.dryer
    (d.state = .preheat → m.permitTimeout ≤ timerNow d.permitTimer m.period →
        ∃ t, exec (.permitTimerReached time) s = .next t ∧ exec (.dryerStep time false) s = .next t
          ∧ t.engine.dryer.state = .cold ∧ t.engine.dryer.retryBlock = true
          ∧ hasFlag t.svc.latched .permitTimeout = true)
      ∧ (d.state = .preheat → (∀ z ∈ m.activeZones, (s.engine.zone z).inBand = true) →
        m.settle ≤ timerNow d.settleTimer m.period →
        ∃ t, exec (.settleTimerReached time) s = .next t ∧ exec (.dryerStep time true) s = .next t
          ∧ t.engine.dryer.state = .ready)
      ∧ (d.state = .ready ∨ d.state = .hold → requestNow s = .produce →
        s.svc.active.recipeComplete = true → m.runThreshold ≤ s.engine.speed.v →
        m.runConfirm ≤ timerNow d.runConfirm m.period →
        ∃ t, exec (.runConfirmReached time) s = .next t ∧ exec (.dryerStep time true) s = .next t
          ∧ t.engine.dryer.state = .run)
      ∧ (d.state = .run → requestNow s = .produce → s.svc.active.recipeComplete = true →
        s.engine.speed.v < m.creep → m.holdDelay ≤ timerNow d.holdDelay m.period →
        ∃ t, exec (.holdDelayReached time) s = .next t ∧ exec (.dryerStep time true) s = .next t
          ∧ t.engine.dryer.state = .hold)
      ∧ (d.state = .hold → requestNow s = .heat ∨ s.engine.speed.v < m.runThreshold →
        m.holdLimit ≠ 0 → m.holdLimit ≤ timerNow d.holdLimit m.period →
        ∃ t, exec (.holdLimitReached time) s = .next t ∧ exec (.dryerStep time true) s = .next t
          ∧ t.engine.dryer.state = .ready)

/-! ### Zones -/

/-- What stage 3 leaves alone; the fan of every active zone, by the dryer state in every zone state (R78, Table 5.5); and
the zones of a dryer that is not heated, or not permitted: OFF or BLOCKED, fire 0, integrator 0, not in band, with S
following a valid air and otherwise standing (R71, R72), and with hold timer, last air and over-temperature finding as R69
and R83 give. An inactive zone's record is its reset record (R68). -/
def Obligations.ZonesAtRestHaveNoFire : Prop :=
  ∀ (s : State) (c : Computation) (time : Nat), s.engine.flight = some c → c.stage = .zones →
    ∃ t, exec (.zoneStage time) s = .next t
      ∧ t.engine =
          { s.engine with
            zones := t.engine.zones
            working := { s.engine.working with fire := t.engine.working.fire, fan := t.engine.working.fan }
            flight := some { c with stage := .exhaust } }
      ∧ t.svc = { s.svc with latched := t.svc.latched }
      ∧ ChangesOnly (s.advanceTo time) t [.engine, .svc, .trip, .pins]
      ∧ ∀ z < 6,
          (s.svc.active.comm.zoneActive z = false → t.engine.zone z = .reset
              ∧ t.engine.working.fire.getD z 0 = s.engine.working.fire.getD z 0
              ∧ t.engine.working.fan.getD z 0 = s.engine.working.fan.getD z 0)
            ∧ (s.svc.active.comm.zoneActive z = true →
                let m := s.svc.active.comm
                let r := s.engine.zone z
                let dryer := s.engine.dryer.state
                let fan := t.engine.working.fan.getD z 0
                let rest (state : ZoneState) : Prop :=
                  (∀ a, s.engine.samples.air z = .valid a →
                      t.engine.zone z =
                        { state := state, setpoint := max 0 (a * 100), integ := 0, lastFire := 0, lastAir := a, hold := 0
                          inBand := false, overTemp := decide ((m.maxAir z : Int) < a), faulted := false })
                    ∧ ((∀ a, s.engine.samples.air z ≠ .valid a) →
                      t.engine.zone z =
                        { state := state, setpoint := r.setpoint, integ := 0, lastFire := 0, lastAir := r.lastAir
                          hold := min (r.hold + m.period) 8589934591
                          inBand := false, overTemp := r.overTemp, faulted := false })
                    ∧ t.engine.working.fire.getD z 0 = 0
                (dryer.heated = false → rest .off)
                  ∧ (dryer.heated = true → c.permit = false → rest .blocked)
                  ∧ (dryer = .cold → fan = 0)
                  ∧ (dryer = .purge → fan = m.purgeFan z)
                  ∧ (dryer = .cooldown → fan = m.coolFan z)
                  ∧ (m.fanMin z ≤ 10000 →
                    (dryer = .preheat ∨ dryer = .ready ∨ dryer = .hold →
                        fan = max (m.fanMin z : Int) (min (m.standbyFan z : Int) 10000))
                      ∧ (dryer = .run →
                        fan = max (m.fanMin z : Int)
                          (min (curveValue (s.svc.active.recipe.zoneCurve z 2) s.engine.speed.vs) 10000))))

/-- A controlled zone (R73, R77, R79 to R82, R85), with its valid air, its air target, its base fire and its
setpoint slewed toward the target: the fire, the integrator, the in-band result, and no fault finding (R76). -/
def Obligations.ZoneLoopFormsItsFire : Prop :=
  ∀ (s : State) (c : Computation) (time z : Nat) (air : Int), s.engine.flight = some c → c.stage = .zones → z < 6 →
    s.svc.active.comm.zoneActive z = true → s.engine.dryer.state.heated = true → c.permit = true →
    s.engine.samples.air z = .valid air →
    ∃ t, exec (.zoneStage time) s = .next t ∧
      let m := s.svc.active.comm
      let r := s.engine.zone z
      let r' := t.engine.zone z
      let goal : Int :=
        if s.engine.dryer.state = .run then
          max 0 (min (curveValue (s.svc.active.recipe.zoneCurve z 1) s.engine.speed.vs) (m.maxAir z))
        else if s.engine.dryer.state = .hold then min (m.holdAir z : Int) (m.maxAir z)
        else min (m.standbyAir z : Int) (m.maxAir z)
      let base : Int :=
        if s.engine.dryer.state = .run then
          max 0 (min (curveValue (s.svc.active.recipe.zoneCurve z 3) s.engine.speed.vs) (m.maxFire z))
        else 0
      let s0 : Int :=
        if r.state = .firing ∨ r.state = .limited ∨ r.state = .holding then r.setpoint
        else max 0 (min (air * 100) ((m.maxAir z : Int) * 100))
      let up : Int := max 1 (((m.slewUp z : Int) * m.period).tdiv 10000)
      let down : Int := max 1 (((m.slewDown z : Int) * m.period).tdiv 10000)
      let e : Int := max (-100000) (min (r'.setpoint - air * 100) 100000)
      let u : Int := base + ((m.kp z : Int) * e).tdiv 1000 + r.integ.tdiv 10000
      let di : Int := ((m.ki z : Int) * e * m.period).tdiv 100000
      (s0 < goal * 100 → r'.setpoint = min (s0 + up) (goal * 100))
        ∧ (goal * 100 < s0 → r'.setpoint = max (s0 - down) (goal * 100))
        ∧ (s0 = goal * 100 → r'.setpoint = s0)
        ∧ (r'.overTemp = true ↔ (m.maxAir z : Int) < air)
        ∧ (r'.overTemp = true → r'.lastFire = 0)
        ∧ (r'.overTemp = false → r'.lastFire = max 0 (min u (m.maxFire z)))
        ∧ (r'.state = .limited ↔ u < 0 ∨ (m.maxFire z : Int) < u ∨ r'.overTemp = true)
        ∧ (r'.state = .limited ∨ r'.state = .firing)
        ∧ ((((m.maxFire z : Int) < u ∨ r'.overTemp = true) ∧ 0 < di) ∨ (u < 0 ∧ di < 0) → r'.integ = r.integ)
        ∧ (¬ ((((m.maxFire z : Int) < u ∨ r'.overTemp = true) ∧ 0 < di) ∨ (u < 0 ∧ di < 0)) →
            r'.integ = max (-100000000) (min (r.integ + di) 100000000))
        ∧ (r'.inBand = true ↔ |goal - air| ≤ (m.band z : Int))
        ∧ r'.hold = 0 ∧ r'.lastAir = air ∧ r'.faulted = false
        ∧ t.engine.working.fire.getD z 0 = r'.lastFire

/-- A controlled zone whose air is not VALID (R74, R75, R76): HOLDING with its fire held within max fire, S and I as they
were, while the sensor hold lasts, if it was controlling or holding; FAULT with fire 0, I 0, S bounded to 0 to max air and
ZONE_FAULT latched otherwise. FIRE[z] carries the zone's fire. Where the hold runs out, the row ZONE_SENSOR_HOLD_RUN_OUT is
that stage. -/
def Obligations.ZoneWithoutASensor : Prop :=
  ∀ (s : State) (c : Computation) (time : Nat) (z : Fin 6), s.engine.flight = some c → c.stage = .zones →
    s.svc.active.comm.zoneActive z = true → s.engine.dryer.state.heated = true → c.permit = true →
    (∀ a, s.engine.samples.air z ≠ .valid a) →
    ∃ t, exec (.zoneStage time) s = .next t ∧
      let r := s.engine.zone z
      let r' := t.engine.zone z
      let held := min (r.hold + s.svc.active.comm.period) 8589934591
      let controlling : Prop := r.state = .firing ∨ r.state = .limited ∨ r.state = .holding
      (controlling → held ≤ s.svc.active.comm.sensorHold →
            r' = { r with
              state := .holding
              lastFire := min r.lastFire (s.svc.active.comm.maxFire z)
              hold := held
              inBand := false
              faulted := false })
        ∧ (¬ controlling ∨ s.svc.active.comm.sensorHold < held →
            r' = { r with
              state := .fault
              setpoint := max 0 (min r.setpoint ((s.svc.active.comm.maxAir z : Int) * 100))
              integ := 0
              lastFire := 0
              hold := held
              inBand := false
              faulted := true }
              ∧ hasFlag t.svc.latched .zoneFault = true)
        ∧ t.engine.working.fire.getD z 0 = r'.lastFire
        ∧ (s.svc.active.comm.sensorHold < held → exec (.zoneSensorHoldRunOut z time) s = .next t)

/-- Over-temperature (R83, R84): a valid air above max air of an active zone latches OVERTEMP, whatever the dryer state;
above max air plus the trip margin it also leaves the trip latch set with OVERTEMP among its causes and starts, or
restarts, the purge. Where no active zone's
valid air is above that level, stage 3 sends no trip; and OVERTEMP and ZONE_FAULT are latched only where some zone's
finding is yes (R76). -/
def Obligations.OvertempIsFoundAndTrips : Prop :=
  (∀ (s : State) (c : Computation) (time z : Nat) (air : Int), s.engine.flight = some c → c.stage = .zones → z < 6 →
    s.svc.active.comm.zoneActive z = true → s.engine.samples.air z = .valid air →
    (s.svc.active.comm.maxAir z : Int) < air →
    ∃ t, exec (.zoneStage time) s = .next t
      ∧ (t.engine.zone z).overTemp = true ∧ hasFlag t.svc.latched .overtemp = true
      ∧ ((s.svc.active.comm.maxAir z : Int) + s.svc.active.comm.tripMargin z < air →
          t.trip.latch = true ∧ t.trip.causes.getLsbD 6 = true
            ∧ t.trip.purgeTimer = some s.svc.active.comm.purgeTime ∧ t.trip.purgeDone = false
            ∧ t.trip.firstCause = (if s.trip.latch then s.trip.firstCause else some .overtemp)
            ∧ t.pins.heatRequest = (s.trip.latch && s.pins.heatRequest)))
    ∧ ∀ (s : State) (c : Computation) (time : Nat), s.engine.flight = some c → c.stage = .zones →
    ∃ t, exec (.zoneStage time) s = .next t ∧
      let above : Prop := ∃ z < 6, s.svc.active.comm.zoneActive z = true ∧ ∃ air, s.engine.samples.air z = .valid air
        ∧ (s.svc.active.comm.maxAir z : Int) + s.svc.active.comm.tripMargin z < air
      (¬ above → t.trip = (s.advanceTo time).trip)
        ∧ ∀ fl : Flag, hasFlag t.svc.latched fl = true ↔
            hasFlag s.svc.latched fl = true ∨ (fl = .overtemp ∧ ∃ z < 6, (t.engine.zone z).overTemp = true)
              ∨ (fl = .zoneFault ∧ ∃ z < 6, (t.engine.zone z).faulted = true) ∨ (fl = .trip ∧ above)

/-! ### Exhaust -/

/-- EXHAUST after stage 4 (R92, R93, Table 6.2), `e` being its value and `level` the solvent level the trim is formed
from (R94), none where the hold has run out. -/
def damperSet (s : State) (level : Option Int) (e : Int) : Prop :=
  let m := s.svc.active.comm
  let dryer := s.engine.dryer.state
  (dryer = .cold → e = 0) ∧ (dryer = .purge → e = 10000) ∧ (dryer = .cooldown → e = m.exhaustMin)
    ∧ (dryer = .run → level = none → e = 10000)
    ∧ (m.exhaustMin ≤ 10000 →
      (dryer = .preheat ∨ dryer = .ready ∨ dryer = .hold →
          e = max (m.exhaustMin : Int) (min (m.standbyExhaust : Int) 10000))
        ∧ (dryer = .run → ∀ x, level = some x →
          let trim : Int := if (m.lelAlarm : Int) < x then ((m.lelGain : Int) * (x - m.lelAlarm)).tdiv 10 else 0
          e = max (m.exhaustMin : Int) (min (curveValue s.svc.active.recipe.damperCurve s.engine.speed.vs + trim) 10000)))

/-- The trip with cause LEL that stage 4 sends, from `s` to `t` (R95, R96, R147, R148): the latch set with LEL among its
causes, the first cause LEL at a clear latch and kept at a set one, the purge timer started or started again in full. -/
def lelTrips (s t : State) (time : Nat) : Prop :=
  t.trip.latch = true ∧ t.trip.causes.getLsbD 5 = true
    ∧ t.trip.firstCause = (if s.trip.latch then s.trip.firstCause else some .lel)
    ∧ t.trip.purgeTimer = some s.svc.active.comm.purgeTime ∧ t.trip.purgeDone = false
    ∧ t.trip = ((s.advanceTo time).tripArrives .lel).trip

/-- Stage 4. A VALID level (R91 to R95): the level taken, the alarm and level findings, EXHAUST by the dryer state; at the
trip level a trip with cause LEL arrives (lelTrips). A silent sensor (R91, R93, R95, R96): the last valid level stands,
both findings are formed anew from it, the hold timer counts while the dryer is heated and stands at 0 otherwise; while the
hold lasts EXHAUST keeps the trim of the last level and no trip is sent; past the LEL hold time a trip with cause LEL
arrives, EXHAUST opens fully in RUN, and the row LEL_HOLD_RUN_OUT is that stage. LEL_ALARM is latched exactly
where the alarm finding is yes. -/
def Obligations.ExhaustStageSetsTheDamper : Prop :=
  (∀ (s : State) (c : Computation) (time : Nat) (x : Int), s.engine.flight = some c → c.stage = .exhaust →
    s.engine.samples.lel = .valid x →
    ∃ t, exec (.exhaustStage time) s = .next t ∧
      let m := s.svc.active.comm
      t.engine.exhaust = ⟨x, 0, decide ((m.lelAlarm : Int) < x), decide ((m.lelTrip : Int) ≤ x)⟩
        ∧ damperSet s (some x) t.engine.working.exhaust
        ∧ (hasFlag t.svc.latched .lelAlarm = true ↔ hasFlag s.svc.latched .lelAlarm = true ∨ (m.lelAlarm : Int) < x)
        ∧ ((m.lelTrip : Int) ≤ x → lelTrips s t time)
        ∧ (x < (m.lelTrip : Int) → t.trip = (s.advanceTo time).trip)
        ∧ t.engine =
            { s.engine with
              exhaust := t.engine.exhaust
              working := { s.engine.working with exhaust := t.engine.working.exhaust }
              flight := some { c with stage := .track } }
        ∧ t.svc = { s.svc with latched := t.svc.latched }
        ∧ ChangesOnly (s.advanceTo time) t [.engine, .svc, .trip, .pins])
    ∧ ∀ (s : State) (c : Computation) (time : Nat), s.engine.flight = some c → c.stage = .exhaust →
    (∀ x, s.engine.samples.lel ≠ .valid x) →
    ∃ t, exec (.exhaustStage time) s = .next t ∧
      let m := s.svc.active.comm
      let last := s.engine.exhaust.lastLel
      let held : Nat := if s.engine.dryer.state.heated then min (s.engine.exhaust.hold + m.period) 8589934591 else 0
      let out : Prop := s.engine.dryer.state.heated = true ∧ m.lelHold < held
      t.engine.exhaust = ⟨last, held, decide ((m.lelAlarm : Int) < last), decide ((m.lelTrip : Int) ≤ last)⟩
        ∧ (hasFlag t.svc.latched .lelAlarm = true ↔ hasFlag s.svc.latched .lelAlarm = true ∨ (m.lelAlarm : Int) < last)
        ∧ (¬ out → damperSet s (some last) t.engine.working.exhaust ∧ t.trip = (s.advanceTo time).trip)
        ∧ (out → damperSet s none t.engine.working.exhaust ∧ lelTrips s t time
            ∧ exec (.lelHoldRunOut time) s = .next t)
        ∧ t.engine =
            { s.engine with
              exhaust := t.engine.exhaust
              working := { s.engine.working with exhaust := t.engine.working.exhaust }
              flight := some { c with stage := .track } }
        ∧ t.svc = { s.svc with latched := t.svc.latched }
        ∧ ChangesOnly (s.advanceTo time) t [.engine, .svc, .trip, .pins]

/-! ### The web track -/

/-- Stage 5 moves the odometer and the residue by v × P whatever else holds (R100), and its read clears the flush mark
(R104). -/
def Obligations.TrackStageMovesTheOdometer : Prop :=
  ∀ (s : State) (c : Computation), s.engine.flight = some c → c.stage = .track →
    ∃ t, exec .trackStage s = .next t
      ∧ t.engine.track.odometer =
          s.engine.track.odometer
            + BitVec.ofNat 32 ((s.engine.track.residue + s.engine.speed.v * s.svc.active.comm.period) / 1000000)
      ∧ t.engine.track.residue =
          (s.engine.track.residue + s.engine.speed.v * s.svc.active.comm.period) % 1000000
      ∧ t.trip = { s.trip with flushMark := false }
      ∧ (∃ retired, t.engine =
          { s.engine with
            track := t.engine.track
            counters := t.engine.counters
            flight := some { c with stage := .chill, retired := retired } })
      ∧ ChangesOnly s t [.engine, .trip]

/-- A flush (R104, R105, R143): with the latch or the flush mark set, or CONFIG read at stage 2, or commissioning tables
made active at this capture, every record is retired in head order, its reasons followed by BREAK where a trip flushes and
by CONFIG where configuration does, each only for its own condition, in that order and at most once; each retirement counts
as WASTE and under each reason it holds; the track is empty and unanchored; admitted and good do not change. -/
def Obligations.FlushRetiresTheWholeTrack : Prop :=
  ∀ (s : State) (c : Computation), s.engine.flight = some c → c.stage = .track →
    s.trip.latch = true ∨ s.trip.flushMark = true ∨ c.node = .config ∨ c.activated = true →
    ∃ (t : State) (gone : List Segment), exec .trackStage s = .next t
      ∧ t.engine.track.records = [] ∧ t.engine.track.anchored = false
      ∧ t.engine.track.nextMark = s.engine.track.nextMark ∧ t.engine.track.nextSeq = s.engine.track.nextSeq
      ∧ t.engine.flight = some { c with stage := .chill, retired := gone }
      ∧ gone.length = s.engine.track.records.length
      ∧ (∀ (i : Nat) (g : Segment), s.engine.track.records[i]? = some g →
          gone[i]? = some ({ g with
            reasons := g.reasons
              ++ (if (s.trip.latch = true ∨ s.trip.flushMark = true) ∧ WasteReason.break_ ∉ g.reasons then [.break_] else [])
              ++ (if (c.node = .config ∨ c.activated = true) ∧ WasteReason.config ∉ g.reasons then [.config] else []) } : Segment))
      ∧ t.engine.counters.waste = s.engine.counters.waste + BitVec.ofNat 32 s.engine.track.records.length
      ∧ (∀ r : WasteReason, t.engine.counters.reasons.getD (reasonNumber (some r) - 1) 0 =
          s.engine.counters.reasons.getD (reasonNumber (some r) - 1) 0 + BitVec.ofNat 32 (gone.countP fun g => r ∈ g.reasons))
      ∧ t.engine.counters.good = s.engine.counters.good
      ∧ t.engine.counters.admitted = s.engine.counters.admitted

/-- The class of a segment admitted in this computation (R106): a VALID INK_COVERAGE bounded to 0 to 3, and 0 for any other
entry. -/
def classNow (s : State) : Nat :=
  match s.engine.samples.inkCoverage with
  | .valid v => (max 0 (min v 3)).toNat
  | .invalid | .absent => 0

/-- The anchoring admission (R106, R107): an unanchored, empty track that moves by at least 1 mm, with no flush, admits
one segment at the odometer; the track is anchored with the next mark one length on, and the class and reasons are those
of this computation. A track that does not move admits nothing. The segment's midpoint lies before the entry reference
at its admission, so where no zone and no crossing lies there it stands in the track as admitted.

And stage 5 of any computation without a flush (R103, R106 to R109, R112, R115, R143). The segments admitted take marks
one length apart and seqs one apart, from the next mark where the track is anchored, one for each length that has reached
the entry reference, at most 4, and none past 128 records. Every record, these last and the others head first, then passes
zone and crossings (SegmentsKeepWhatTheyHold says how): those that reach the chill exit are retired in head order, and the
others stay. Each admission and each retirement is counted, GOOD without a reason and WASTE with one, and under each reason
it holds. -/
def Obligations.FirstAdmissionAnchorsTheTrack : Prop :=
  (∀ (s : State) (c : Computation), s.engine.flight = some c → c.stage = .track →
    s.trip.latch = false → s.trip.flushMark = false → c.node ≠ .config → c.activated = false →
    s.engine.track.anchored = false → s.engine.track.records = [] → 2 ≤ s.svc.active.comm.segmentLength →
    ∃ t, exec .trackStage s = .next t ∧
      let moved := (s.engine.track.residue + s.engine.speed.v * s.svc.active.comm.period) / 1000000
      (moved = 0 → t.engine.track.records = [] ∧ t.engine.track.anchored = false
          ∧ t.engine.track.nextSeq = s.engine.track.nextSeq ∧ t.engine.counters = s.engine.counters)
        ∧ (1 ≤ moved →
            t.engine.track.anchored = true
              ∧ t.engine.track.nextMark = t.engine.track.odometer + BitVec.ofNat 32 s.svc.active.comm.segmentLength
              ∧ t.engine.track.nextSeq = s.engine.track.nextSeq + 1
              ∧ t.engine.track.records =
                  [{ seq := s.engine.track.nextSeq
                     mark := t.engine.track.odometer
                     cls := classNow s
                     dose := 0
                     reasons := (if s.engine.dryer.state = .run then [] else [.start])
                       ++ (if s.engine.samples.splice.asserted then [.splice] else [])
                     exitTemp := none
                     chillTemp := none
                     judged := false }]
              ∧ t.engine.counters = { s.engine.counters with admitted := s.engine.counters.admitted + 1 }))
    ∧ ∀ (s : State) (c : Computation), s.engine.flight = some c → c.stage = .track →
    s.trip.latch = false → s.trip.flushMark = false → c.node ≠ .config → c.activated = false →
    ∃ (t : State) (news gone : List Segment), exec .trackStage s = .next t ∧
      let k := s.engine.track
      let k' := t.engine.track
      let moved := (k.residue + s.engine.speed.v * s.svc.active.comm.period) / 1000000
      let length := s.svc.active.comm.segmentLength
      let first := if k.anchored then k.nextMark else k'.odometer
      let pass (fresh : Bool) (g : Segment) := (g.exposed s k'.odometer).crossed s k'.odometer moved fresh
      let passed := k.records.map (pass false) ++ news.map (pass true)
      k'.odometer = k.odometer + BitVec.ofNat 32 moved
        ∧ k'.records = (passed.filter fun o => !o.2).map (·.1)
        ∧ gone = (passed.filter fun o => o.2).map (·.1)
        ∧ t.engine.flight = some { c with stage := .chill, retired := gone }
        ∧ (∀ (i : Nat) (g : Segment), news[i]? = some g → g =
            { seq := k.nextSeq + BitVec.ofNat 16 i
              mark := first + BitVec.ofNat 32 (i * length)
              cls := classNow s
              dose := 0
              reasons := (if s.engine.dryer.state = .run then [] else [.start])
                ++ (if s.engine.samples.splice.asserted then [.splice] else [])
              exitTemp := none
              chillTemp := none
              judged := false })
        ∧ k'.nextSeq = k.nextSeq + BitVec.ofNat 16 news.length
        ∧ (k.anchored = true →
            k'.anchored = true ∧ news.length ≤ 4
              ∧ k'.nextMark = k.nextMark + BitVec.ofNat 32 (news.length * length)
              ∧ (∀ i < news.length, (k'.odometer - (k.nextMark + BitVec.ofNat 32 (i * length))).toNat < 2 ^ 31
                  ∧ k.records.length + i < 128)
              ∧ (news.length < 4 → 2 ^ 31 ≤ (k'.odometer - k'.nextMark).toNat ∨ 128 ≤ k.records.length + news.length))
        ∧ (k.anchored = false → 1 ≤ moved → k.records.length < 128 →
            news.length = 1 ∧ k'.anchored = true ∧ k'.nextMark = k'.odometer + BitVec.ofNat 32 length)
        ∧ (k.anchored = false → moved = 0 ∨ 128 ≤ k.records.length →
            news = [] ∧ k'.anchored = false ∧ k'.nextMark = k.nextMark)
        ∧ t.engine.counters.admitted = s.engine.counters.admitted + BitVec.ofNat 32 news.length
        ∧ t.engine.counters.good =
            s.engine.counters.good + BitVec.ofNat 32 (gone.countP fun g => g.reasons = [])
        ∧ t.engine.counters.waste =
            s.engine.counters.waste + BitVec.ofNat 32 (gone.countP fun g => g.reasons ≠ [])
        ∧ ∀ r : WasteReason, t.engine.counters.reasons.getD (reasonNumber (some r) - 1) 0 =
            s.engine.counters.reasons.getD (reasonNumber (some r) - 1) 0 + BitVec.ofNat 32 (gone.countP fun g => r ∈ g.reasons)

/-- A segment's passage through parts 4 and 5 of stage 5. Its dose grows by what its zone gives it, by the zone's state
(R110, R86), and saturates (R111). At the dryer end it is judged against its class's dose window (R113), at the exit
pyrometer and at the chill exit it takes the temperature where the channel is mapped and VALID and the reason its rule
gives (R114, R115), each crossing in the one computation in which its midpoint comes to it (R112). Reasons are added once
each, after those held, in the order of the parts; seq, mark and class stand; and the record is retired exactly where it
reaches the chill exit. -/
def Obligations.SegmentsKeepWhatTheyHold : Prop :=
  ∀ (s : State) (g : Segment) (odometer : BitVec 32) (mm : Nat) (fresh : Bool), g.dose ≤ 4000000000 →
    let out := (g.exposed s odometer).crossed s odometer mm fresh
    let m := s.svc.active.comm
    let recipe := s.svc.active.recipe
    let mid : Int := ((odometer - g.mark).toNat : Int) - (m.segmentLength / 2 : Nat)
    let crosses (p : Nat) : Prop := (p : Int) ≤ mid ∧ (fresh = true ∨ mid - mm < p)
    let within (z : Nat) : Prop := z < 6 ∧ z < m.zoneCount ∧ (m.zoneStart z : Int) ≤ mid ∧ mid < m.zoneEnd z
    let state (z : Nat) := (s.engine.zone z).state
    let noDose (z : Nat) : Prop := state z = .off ∨ state z = .blocked ∨ state z = .fault
    let air (z : Nat) (a : Int) : Prop :=
      ((state z = .firing ∨ state z = .limited) ∧ s.engine.samples.air z = .valid a)
        ∨ (state z = .holding ∧ a = (s.engine.zone z).lastAir)
    let exitMapped : Prop := (m.cellOf 13).isSome = true
    let chillMapped : Prop := (m.cellOf 16).isSome = true
    out.1.seq = g.seq ∧ out.1.mark = g.mark ∧ out.1.cls = g.cls
      ∧ g.dose ≤ out.1.dose ∧ out.1.dose ≤ 4000000000
      ∧ (∀ z, within z → (∀ y < z, ¬ within y) →
          (∀ a, air z a →
              out.1.dose = min (g.dose + ((max 0 (a - m.doseReference) * m.period).tdiv 10000).toNat) 4000000000)
            ∧ (noDose z → out.1.dose = g.dose))
      ∧ ((∀ z, ¬ within z) → out.1.dose = g.dose)
      ∧ (∃ added, out.1.reasons = g.reasons ++ added
          ∧ added.Sublist [.zone, .underdose, .overdose, .exitTemp, .unmeasured, .chillHot])
      ∧ (.zone ∈ out.1.reasons ↔ .zone ∈ g.reasons ∨ ∃ z, within z ∧ (∀ y < z, ¬ within y) ∧ noDose z)
      ∧ (.underdose ∈ out.1.reasons ↔
          .underdose ∈ g.reasons ∨ (crosses m.dryerEnd ∧ out.1.dose < recipe.doseMin g.cls))
      ∧ (.overdose ∈ out.1.reasons ↔
          .overdose ∈ g.reasons ∨ (crosses m.dryerEnd ∧ recipe.doseMax g.cls < out.1.dose))
      ∧ (.exitTemp ∈ out.1.reasons ↔ .exitTemp ∈ g.reasons
          ∨ (crosses m.exitPosition ∧ exitMapped ∧ ∃ x, s.engine.samples.exitWebTemp = .valid x
              ∧ (x < recipe.exitLow g.cls ∨ (recipe.exitHigh g.cls : Int) < x)))
      ∧ (.chillHot ∈ out.1.reasons ↔ .chillHot ∈ g.reasons
          ∨ (crosses m.chillExit ∧ chillMapped ∧ ∃ x, s.engine.samples.chillExit = .valid x
              ∧ (recipe.chillExitMax g.cls : Int) < x))
      ∧ (.unmeasured ∈ out.1.reasons ↔ .unmeasured ∈ g.reasons
          ∨ (crosses m.exitPosition ∧ exitMapped ∧ ∀ x, s.engine.samples.exitWebTemp ≠ .valid x)
          ∨ (crosses m.chillExit ∧ chillMapped ∧ ∀ x, s.engine.samples.chillExit ≠ .valid x))
      ∧ (out.1.judged = true ↔ g.judged = true ∨ crosses m.dryerEnd)
      ∧ (∀ x, crosses m.exitPosition → exitMapped → s.engine.samples.exitWebTemp = .valid x → out.1.exitTemp = some x)
      ∧ (¬ (crosses m.exitPosition ∧ exitMapped ∧ ∃ x, s.engine.samples.exitWebTemp = .valid x) →
          out.1.exitTemp = g.exitTemp)
      ∧ (∀ x, crosses m.chillExit → chillMapped → s.engine.samples.chillExit = .valid x → out.1.chillTemp = some x)
      ∧ (¬ (crosses m.chillExit ∧ chillMapped ∧ ∃ x, s.engine.samples.chillExit = .valid x) →
          out.1.chillTemp = g.chillTemp)
      ∧ (out.2 = true ↔ crosses m.chillExit)

/-! ### The chill stand -/

/-- The stand state and the valves of IDLE and STILL (R124 to R126): CONFIG is IDLE, PURGE is STILL at every speed, a web
below creep is STILL over a heated dryer and IDLE over a cold one, and otherwise the stand is TRACKING. So it is too where
ENTER_CONFIG and LEAVE_CONFIG fell between two stage 2 reads, with the I_c and for the rolls that R135 and R122 would have
start empty: the MODEL's choice (assumptions 39, 40). -/
def Obligations.ChillStandSelectsItsState : Prop :=
  ∀ (s : State) (c : Computation), s.engine.flight = some c → c.stage = .chill →
    ∃ t, exec .chillStage s = .next t
      ∧ (c.node = .config → t.engine.chill.stand = .idle)
      ∧ (c.node ≠ .config → s.engine.dryer.state = .purge → t.engine.chill.stand = .still)
      ∧ (c.node ≠ .config → s.engine.dryer.state ≠ .purge → s.engine.speed.v < s.svc.active.comm.creep →
          t.engine.chill.stand = if s.engine.dryer.state.heated then .still else .idle)
      ∧ (c.node ≠ .config → s.engine.dryer.state ≠ .purge → s.svc.active.comm.creep ≤ s.engine.speed.v →
          t.engine.chill.stand = .tracking)
      ∧ (t.engine.chill.stand = .idle →
          t.engine.chill.integ = 0
            ∧ ∀ r < 8, s.svc.active.comm.rollActive r = true →
                t.engine.working.valve.getD r 0 = s.svc.active.comm.idleValve)
      ∧ (t.engine.chill.stand = .still →
          t.engine.chill.integ = s.engine.chill.integ
            ∧ ∀ r < 8, s.svc.active.comm.rollActive r = true →
                t.engine.working.valve.getD r 0 = s.svc.active.comm.holdValve r)
      ∧ t.engine =
          { s.engine with
            chill := t.engine.chill
            working := { s.engine.working with valve := t.engine.working.valve }
            flight := some { c with stage := .report } }
      ∧ ChangesOnly s t [.engine, .svc, .pins]

/-- The feed-forward of roll `r` (R128, R129): that of the record whose span holds the roll's look point, 0 where none does
or where it has no exit temperature. -/
def feedForwardOf (s : State) (r : Nat) (ff : Int) : Prop :=
  let look : Int := (s.svc.active.comm.rollContact r : Int) - s.svc.active.recipe.lookLead
  let spans (g : Segment) : Prop :=
    ((s.engine.track.odometer - g.mark).toNat : Int) - s.svc.active.comm.segmentLength ≤ look
      ∧ look < ((s.engine.track.odometer - g.mark).toNat : Int)
  (∃ (i : Nat) (g : Segment), s.engine.track.records[i]? = some g ∧ spans g
      ∧ (∀ (j : Nat) (h : Segment), j < i → s.engine.track.records[j]? = some h → ¬ spans h)
      ∧ (g.exitTemp = none → ff = 0)
      ∧ ∀ x, g.exitTemp = some x →
          ff = ((s.svc.active.recipe.feedGain : Int) * (x - s.svc.active.recipe.nominalExit)).tdiv 10)
    ∨ ((∀ g ∈ s.engine.track.records, ¬ spans g) ∧ ff = 0)

/-- The valves of a TRACKING stand with this trim (R127): base curve, feed-forward and trim, clamped to valve min to
10000. -/
def valvesSet (s t : State) (trim : Int) : Prop :=
  ∀ r < 8, s.svc.active.comm.rollActive r = true → s.svc.active.comm.valveMin r ≤ 10000 →
    ∃ ff, feedForwardOf s r ff
      ∧ t.engine.working.valve.getD r 0 =
          max (s.svc.active.comm.valveMin r : Int)
            (min (curveValue (s.svc.active.recipe.rollCurve r) s.engine.speed.vs + ff + trim) 10000)

/-- The stand in TRACKING, with the I_c that its record holds (also where R135 would have it empty: assumption 39). With
CHILL_EXIT_WEB_TEMP mapped and VALID (R127, R131): base curve, feed-forward and trim make
each valve, clamped to valve min to 10000, and the integrator follows. Without a reading (R130, R132): the trim is that of
the integrator alone, which is frozen; a mapped channel counts the hold, past the sensor hold time the exit fault is found,
and the row CHILL_SENSOR_HOLD_RUN_OUT is that stage (assumption 9); an unmapped one counts nothing and is no fault. At
every stage 6, whatever the stand: the supply finding follows a VALID supply temperature and otherwise stands (R133); in
IDLE and STILL the hold timer is 0 and there is no exit fault; CHILL_FAULT is latched exactly where a finding is yes. -/
def Obligations.ChillTrimFollowsTheReading : Prop :=
  (∀ (s : State) (c : Computation) (x : Int), s.engine.flight = some c → c.stage = .chill →
    c.node ≠ .config → s.engine.dryer.state ≠ .purge → s.svc.active.comm.creep ≤ s.engine.speed.v →
    (s.svc.active.comm.cellOf 16).isSome = true → s.engine.samples.chillExit = .valid x →
    ∃ t, exec .chillStage s = .next t ∧
      let m := s.svc.active.comm
      let e : Int := max (-100000) (min ((x - s.svc.active.recipe.chillTarget) * 100) 100000)
      let u : Int := ((m.chillKp : Int) * e).tdiv 1000 + s.engine.chill.integ.tdiv 10000
      let trim : Int := max (-(m.trimLimit : Int)) (min u m.trimLimit)
      let di : Int := ((m.chillKi : Int) * e * m.period).tdiv 100000
      t.engine.chill.hold = 0 ∧ t.engine.chill.exitFault = false
        ∧ (((m.trimLimit : Int) < u ∧ 0 < di) ∨ (u < -(m.trimLimit : Int) ∧ di < 0) →
            t.engine.chill.integ = s.engine.chill.integ)
        ∧ (¬ (((m.trimLimit : Int) < u ∧ 0 < di) ∨ (u < -(m.trimLimit : Int) ∧ di < 0)) →
            t.engine.chill.integ = max (-100000000) (min (s.engine.chill.integ + di) 100000000))
        ∧ valvesSet s t trim)
    ∧ (∀ (s : State) (c : Computation), s.engine.flight = some c → c.stage = .chill →
    c.node ≠ .config → s.engine.dryer.state ≠ .purge → s.svc.active.comm.creep ≤ s.engine.speed.v →
    (s.svc.active.comm.cellOf 16 = none ∨ ∀ x, s.engine.samples.chillExit ≠ .valid x) →
    ∃ t, exec .chillStage s = .next t ∧
      let limit : Int := s.svc.active.comm.trimLimit
      let held := min (s.engine.chill.hold + s.svc.active.comm.period) 8589934591
      t.engine.chill.integ = s.engine.chill.integ
      ∧ valvesSet s t (max (-limit) (min (s.engine.chill.integ.tdiv 10000) limit))
      ∧ (s.svc.active.comm.cellOf 16 = none → t.engine.chill.hold = 0 ∧ t.engine.chill.exitFault = false)
      ∧ ((s.svc.active.comm.cellOf 16).isSome = true →
          t.engine.chill.hold = held
            ∧ (t.engine.chill.exitFault = true ↔ s.svc.active.comm.sensorHold < held)
            ∧ (s.svc.active.comm.sensorHold < held →
                hasFlag t.svc.latched .chillFault = true ∧ exec .chillSensorHoldRunOut s = .next t)))
    ∧ ∀ (s : State) (c : Computation), s.engine.flight = some c → c.stage = .chill →
    ∃ t, exec .chillStage s = .next t
      ∧ (∀ x, s.engine.samples.chillSupply = .valid x →
          (t.engine.chill.supply = true ↔ (s.svc.active.comm.chillSupplyMax : Int) < x))
      ∧ ((∀ x, s.engine.samples.chillSupply ≠ .valid x) → t.engine.chill.supply = s.engine.chill.supply)
      ∧ (t.engine.chill.stand ≠ .tracking → t.engine.chill.hold = 0 ∧ t.engine.chill.exitFault = false)
      ∧ (∀ fl : Flag, hasFlag t.svc.latched fl = true ↔
          hasFlag s.svc.latched fl = true
            ∨ (fl = .chillFault ∧ (t.engine.chill.exitFault = true ∨ t.engine.chill.supply = true)))
      ∧ t.svc = { s.svc with latched := t.svc.latched }

/-! ### Publication -/

/-- A publication (R39 to R41): the read side is replaced whole by the working output set, FIRE, FAN and CHILL_VALVE of
inactive zones and rolls are 0, the report cells carry the dryer state, the node state read at stage 2, the latch and the
latched flags; the published view is replaced whole, item by item as Table 3.5 gives; the publication number advances,
skipping 0; and the computation leaves flight. -/
def Obligations.PublicationReplacesTheOutputSet : Prop :=
  ∀ (s : State) (c : Computation), s.engine.flight = some c → c.stage = .report →
    ∃ t, exec .publication s = .next t
      ∧ t.engine.flight = none ∧ t.port.readSide = t.engine.working
      ∧ t.engine.view =
          { publication := if s.engine.view.publication = 0xFFFFFFFF then 1 else s.engine.view.publication + 1
            number := c.number
            node := c.node
            v := s.engine.speed.v
            vs := s.engine.speed.vs
            held := s.engine.dryer.held
            dryer := s.engine.dryer.state
            zones := [(s.engine.zone 0).state, (s.engine.zone 1).state, (s.engine.zone 2).state,
              (s.engine.zone 3).state, (s.engine.zone 4).state, (s.engine.zone 5).state]
            stand := s.engine.chill.stand
            complete := s.svc.active.recipeComplete
            zoneTag := item s.svc.active.recipe.zoneCurves 0
            exhaustTag := item s.svc.active.recipe.exhaustCurve 0
            chillTag := item s.svc.active.recipe.chillCurves 0
            doseTag := item s.svc.active.recipe.doseWindows 0
            latch := s.trip.latch
            causes := s.trip.causes
            firstCause := s.trip.firstCause
            purgeDone := s.trip.purgeDone
            latched := s.svc.latched
            present := t.engine.view.present
            pendingSet := s.svc.pendingSet
            clearPending := s.svc.clearPending
            writing := s.svc.writing.isSome
            result := s.svc.result
            resetCauses := s.svc.resetCauses
            inUp := s.port.inUp
            outUp := s.port.outUp
            records := s.engine.track.records
            odometer := s.engine.track.odometer
            nextMark := s.engine.track.nextMark
            anchored := s.engine.track.anchored
            counters := s.engine.counters
            fcsFailed := s.port.fcsFailed
            malformed := s.port.malformed
            lateCount := s.sup.lateCount }
      ∧ (∀ f : Flag, t.engine.view.present.getLsbD (flagNumber f) = true ↔ presentNow s f)
      ∧ t.port.readSide.status = ⟨s.engine.dryer.state, c.node, s.trip.latch, s.svc.active.recipeComplete⟩
      ∧ t.port.readSide.alert = s.svc.latched
      ∧ t.port.readSide.exhaust = s.engine.working.exhaust
      ∧ (∀ z < 6, t.port.readSide.fire.getD z 0 =
            (if s.svc.active.comm.zoneActive z then s.engine.working.fire.getD z 0 else 0)
          ∧ t.port.readSide.fan.getD z 0 =
            (if s.svc.active.comm.zoneActive z then s.engine.working.fan.getD z 0 else 0))
      ∧ (∀ r < 8, t.port.readSide.valve.getD r 0 =
            if s.svc.active.comm.rollActive r then s.engine.working.valve.getD r 0 else 0)
      ∧ t.port = { s.port with readSide := t.port.readSide }
      ∧ t.engine = { s.engine with working := t.engine.working, view := t.engine.view, flight := none }
      ∧ ChangesOnly s t [.port, .engine]

/-- GATE from a computation's retirements (R140, R141): WASTE where any is WASTE, GOOD where all are GOOD, and what it held
where there are none; the count saturates at 7; the reason is the first of the last WASTE segment in the list. -/
def Obligations.GateReportsTheRetirements : Prop :=
  ∀ (s : State) (c : Computation), s.engine.flight = some c → c.stage = .report →
    ∃ t, exec .publication s = .next t
      ∧ (c.retired = [] → t.port.readSide.gate = { s.engine.working.gate with count := 0 })
      ∧ (c.retired ≠ [] → t.port.readSide.gate.count = min c.retired.length 7)
      ∧ (c.retired ≠ [] → (∀ g ∈ c.retired, g.reasons = []) →
          t.port.readSide.gate.verdict = .good ∧ t.port.readSide.gate.reason = none)
      ∧ (∀ before g after r rest, c.retired = before ++ g :: after → g.reasons = r :: rest →
          (∀ g' ∈ after, g'.reasons = []) →
          t.port.readSide.gate.verdict = .waste ∧ t.port.readSide.gate.reason = some r)

/-! ### Trips, break lines and purge -/

/-- A trip that arrives while the latch is clear sets it (R147): first cause and cause set, both marks, the purge timer and
purge-done, the TRIP line and flag, HEAT_REQUEST low, every FIRE cell written from then on 0, and the computation in flight
undisturbed. -/
def Obligations.TripSetsTheLatch : Prop :=
  ∀ (s : State) (c : Cause), s.trip.latch = false →
    (s.tripArrives c).trip =
        { s.trip with
          latch := true
          causes := BitVec.ofNat 10 (2 ^ causeNumber c)
          firstCause := some c
          tripMark := true
          flushMark := true
          purgeTimer := some s.svc.active.comm.purgeTime
          purgeDone := false }
      ∧ (s.tripArrives c).svc = { s.svc with latched := s.svc.latched ||| Flag.trip.mask }
      ∧ (s.tripArrives c).pins =
          { s.pins with
            tripLine := true
            heatRequest := false
            alertLine := ((s.svc.latched ||| Flag.trip.mask) &&& s.svc.enable) != 0 }
      ∧ (∀ z, (s.tripArrives c).fireValue z = 0)
      ∧ ChangesOnly s (s.tripArrives c) [.trip, .svc, .pins]

/-- A trip that arrives while the latch is set retriggers the purge (R148): its cause joins the set, the first cause is
kept, the purge timer starts again in full, and neither line nor mark changes. Two trips that arrive together leave, in
either order, both causes in the set; only the first cause differs. -/
def Obligations.TripRetriggersThePurge : Prop :=
  (∀ (s : State) (c : Cause), s.trip.latch = true →
    (s.tripArrives c).trip =
        { s.trip with
          causes := s.trip.causes ||| BitVec.ofNat 10 (2 ^ causeNumber c)
          purgeTimer := some s.svc.active.comm.purgeTime
          purgeDone := false }
      ∧ (s.tripArrives c).svc = { s.svc with latched := s.svc.latched ||| Flag.trip.mask }
      ∧ (s.tripArrives c).pins =
          { s.pins with alertLine := ((s.svc.latched ||| Flag.trip.mask) &&& s.svc.enable) != 0 }
      ∧ ChangesOnly s (s.tripArrives c) [.trip, .svc, .pins])
    ∧ ∀ (s : State) (a b : Cause), s.trip.latch = false →
        (s.tripArrives a).tripArrives b =
          { (s.tripArrives b).tripArrives a with
            trip := { ((s.tripArrives b).tripArrives a).trip with firstCause := some a } }

/-- The purge timer runs out (R149): purge-done becomes yes and the timer stops; nothing else changes. A purge timer that
is stopped, or has time left, does not run out: the MODEL's reading of such a command, with nothing changed, local time
included (assumption 7). -/
def Obligations.PurgeExpiryEndsThePurge : Prop :=
  (∀ (s : State) (time p : Nat), s.svc.node ≠ .loading → s.trip.purgeTimer = some p → p ≤ time - s.localTime →
    ∃ t, exec (.purgeExpiry time) s = .next t
      ∧ t.trip = { (s.advanceTo time).trip with purgeTimer := none, purgeDone := true }
      ∧ ChangesOnly (s.advanceTo time) t [.trip])
    ∧ ∀ (s : State) (time : Nat), (∀ p, s.trip.purgeTimer = some p → time - s.localTime < p) →
        exec (.purgeExpiry time) s = .next s

/-- The take of a level by the filter of line `k` (R151 to R153), from `u` to `t`: where it is the taken level already,
nothing follows; otherwise it becomes the taken level, a qualifying change of the line's mode trips, or latches NOTICE, and
any other change is only taken. -/
def levelTaken (u t : State) (k : Fin 4) (level : Bool) : Prop :=
  let old := (u.trip.filter k).taken
  let mode := u.svc.active.comm.lineMode k
  (old = some level → t = u)
    ∧ (old ≠ some level →
        (t.trip.filter k).taken = some level ∧ (t.trip.filter k).stable = (u.trip.filter k).stable
          ∧ (∀ j < 4, j ≠ k.val → t.trip.filter j = u.trip.filter j)
          ∧ (lineQualifies mode old level → u.svc.active.comm.lineAction k = .trip →
              t.trip.latch = true ∧ t.trip.causes.getLsbD k = true
                ∧ t.trip.firstCause = (if u.trip.latch then u.trip.firstCause else some (.breakLine k))
                ∧ t.trip.purgeTimer = some u.svc.active.comm.purgeTime ∧ t.trip.purgeDone = false
                ∧ t.svc = { u.svc with latched := u.svc.latched ||| Flag.trip.mask })
          ∧ (lineQualifies mode old level → u.svc.active.comm.lineAction k = .notice →
              t.svc = { u.svc with latched := u.svc.latched ||| Flag.notice.mask }
                ∧ t.trip = { u.trip with filters := t.trip.filters })
          ∧ (¬ lineQualifies mode old level → t.svc = u.svc ∧ t.pins = u.pins
              ∧ t.trip = { u.trip with filters := t.trip.filters }))
    ∧ ChangesOnly u t [.trip, .svc, .pins]

/-- Break lines (R151 to R153, Table 10.3). A change of level at the terminals restarts the stability timer on the new
level; with a filter time above 0 it is not yet taken, and with a filter time of 0 it is taken at that moment; while
LOADING no filter runs. A level stable for the filter time is taken and judged: where it is the taken level already, nothing
follows; a qualifying change of the line's mode trips, or latches NOTICE; any other change is only taken. A level not yet
stable for the filter time is not taken, and none is while LOADING (R151): that such a command changes nothing, local time
included, is the MODEL's reading (assumption 7). -/
def Obligations.BreakLinesAreFilteredAndJudged : Prop :=
  (∀ (s : State) (k : Fin 4) (high : Bool) (time : Nat), s.pins.breakLines.length = 4 → s.trip.filters.length = 4 →
    s.pins.breakLines.getD k false ≠ high →
    (s.svc.node = .loading →
        exec (.breakLineLevelChange k high time) s =
          .next { s with pins := { s.pins with breakLines := s.pins.breakLines.set k high } })
      ∧ (s.svc.node ≠ .loading →
        ∃ u t, exec (.breakLineLevelChange k high time) s = .next t
          ∧ u.pins = { s.pins with breakLines := s.pins.breakLines.set k high }
          ∧ (u.trip.filter k).stable = 0 ∧ (u.trip.filter k).taken = (s.trip.filter k).taken
          ∧ (∀ j < 4, j ≠ k.val → u.trip.filter j = (s.advanceTo time).trip.filter j)
          ∧ u.trip = { (s.advanceTo time).trip with filters := u.trip.filters }
          ∧ ChangesOnly (s.advanceTo time) u [.trip, .pins]
          ∧ (s.svc.active.comm.filterTime k ≠ 0 → t = u)
          ∧ (s.svc.active.comm.filterTime k = 0 → levelTaken u t k high)))
    ∧ (∀ (s : State) (k : Fin 4) (time : Nat), s.svc.node ≠ .loading → s.trip.filters.length = 4 →
    s.svc.active.comm.filterTime k ≤ (s.trip.filter k).stable + (time - s.localTime) →
    ∃ t, exec (.breakLineLevelTaken k time) s = .next t
      ∧ levelTaken (s.advanceTo time) t k (s.pins.breakLines.getD k false))
    ∧ ∀ (s : State) (k : Fin 4) (time : Nat),
    s.svc.node = .loading
      ∨ (s.trip.filters.length = 4
          ∧ (s.trip.filter k).stable + (time - s.localTime) < s.svc.active.comm.filterTime k) →
    exec (.breakLineLevelTaken k time) s = .next s

/-! ### Service requests, each as a command of its own (assumption 14) -/

/-- The tables: id, class (Table 11.3), entries and words of one entry (Table 12.5). -/
def tableRows : List (Nat × TableId × TableClass × Nat × Nat) :=
  [ (1, .node, .commissioning, 1, 8), (2, .cellMap, .commissioning, 64, 1), (3, .geometry, .commissioning, 25, 1),
    (4, .limits, .commissioning, 73, 1), (5, .inputLines, .commissioning, 4, 3), (6, .zoneTuning, .commissioning, 6, 5),
    (7, .chillTuning, .commissioning, 10, 2), (10, .zoneCurves, .recipe, 295, 1), (11, .exhaustCurve, .recipe, 18, 1),
    (12, .chillCurves, .recipe, 141, 1), (13, .doseWindows, .recipe, 5, 5), (20, .report, .immediate, 1, 1),
    (30, .status, .readOnly, 21, 1), (31, .track, .readOnly, 128, 4), (32, .counters, .readOnly, 16, 1),
    (33, .identity, .readOnly, 1, 6) ]

/-- The table of each name in a copy. -/
def copyHolds (t : Tables) : Prop :=
  t.words .node = t.comm.node ∧ t.words .cellMap = t.comm.cellMap ∧ t.words .geometry = t.comm.geometry
    ∧ t.words .limits = t.comm.limits ∧ t.words .inputLines = t.comm.inputLines
    ∧ t.words .zoneTuning = t.comm.zoneTuning ∧ t.words .chillTuning = t.comm.chillTuning
    ∧ t.words .zoneCurves = t.recipe.zoneCurves ∧ t.words .exhaustCurve = t.recipe.exhaustCurve
    ∧ t.words .chillCurves = t.recipe.chillCurves ∧ t.words .doseWindows = t.recipe.doseWindows

/-- The items of the commissioning tables by the words that hold them (Table 12.5), times in µs (R15, R65, R97, R160). -/
def commissioningItems (c : Commissioning) : Prop :=
  let at' (ws : List Word) (i : Nat) : Nat := (ws.getD i 0).toNat
  (c.station = at' c.node 0 ∧ c.period = at' c.node 1
      ∧ c.earlyLimit = at' c.node 1 * at' c.node 2 / 100 ∧ c.lateLimit = at' c.node 1 * at' c.node 3 / 100
      ∧ c.warnTime = at' c.node 4 * 1000 ∧ c.lossTime = at' c.node 5 * 1000
      ∧ c.speedHold = at' c.node 6 * 1000 ∧ c.sensorHold = at' c.node 7 * 1000)
    ∧ (c.zoneCount = at' c.geometry 0 ∧ c.rollCount = at' c.geometry 1 ∧ c.exitPosition = at' c.geometry 2
      ∧ c.chillExit = at' c.geometry 3 ∧ c.segmentLength = at' c.geometry 4
      ∧ (∀ z < 6, c.zoneStart z = at' c.geometry (5 + z) ∧ c.zoneEnd z = at' c.geometry (11 + z))
      ∧ (∀ r < 8, c.rollContact r = at' c.geometry (17 + r))
      ∧ c.dryerEnd = at' c.geometry (11 + (at' c.geometry 0 - 1))
      ∧ (∀ z, (c.zoneActive z = true ↔ z < at' c.geometry 0) ∧ (z ∈ c.activeZones ↔ z < 6 ∧ z < at' c.geometry 0))
      ∧ ∀ r, c.rollActive r = true ↔ r < at' c.geometry 1)
    ∧ (∀ k < 64, c.mapChannel k = at' c.cellMap k % 65536 ∧ c.mapCell k = at' c.cellMap k / 65536)
    ∧ (c.vmax = at' c.limits 0 ∧ c.creep = at' c.limits 1 ∧ c.runThreshold = at' c.limits 2 ∧ c.lead = at' c.limits 3
      ∧ c.doseReference = at' c.limits 4 ∧ c.coolLimit = at' c.limits 5 ∧ c.exhaustMin = at' c.limits 6
      ∧ c.standbyExhaust = at' c.limits 7 ∧ c.lelAlarm = at' c.limits 8 ∧ c.lelTrip = at' c.limits 9
      ∧ c.lelGain = at' c.limits 10 ∧ c.lelHold = at' c.limits 11 * 100000 ∧ c.purgeTime = at' c.limits 12 * 1000000
      ∧ c.permitTimeout = at' c.limits 13 * 1000000 ∧ c.settle = at' c.limits 14 * 100000
      ∧ c.runConfirm = at' c.limits 15 * 100000 ∧ c.holdDelay = at' c.limits 16 * 1000000
      ∧ c.holdLimit = at' c.limits 17 * 60000000 ∧ c.chillSupplyMax = at' c.limits 18
      ∧ ∀ z < 6, c.maxAir z = at' c.limits (19 + 9 * z) ∧ c.tripMargin z = at' c.limits (20 + 9 * z)
          ∧ c.maxFire z = at' c.limits (21 + 9 * z) ∧ c.standbyAir z = at' c.limits (22 + 9 * z)
          ∧ c.holdAir z = at' c.limits (23 + 9 * z) ∧ c.standbyFan z = at' c.limits (24 + 9 * z)
          ∧ c.purgeFan z = at' c.limits (25 + 9 * z) ∧ c.coolFan z = at' c.limits (26 + 9 * z)
          ∧ c.fanMin z = at' c.limits (27 + 9 * z))
    ∧ (∀ k < 4,
        (∀ mode, c.lineMode k = mode → at' c.inputLines (3 * k) ≤ 5 →
            at' c.inputLines (3 * k) = [LineMode.unused, .rising, .falling, .both, .high, .low].idxOf mode)
          ∧ (∀ action, c.lineAction k = action → at' c.inputLines (3 * k + 1) ≤ 1 →
            at' c.inputLines (3 * k + 1) = [LineAction.trip, .notice].idxOf action)
          ∧ c.filterTime k = at' c.inputLines (3 * k + 2) * 1000)
    ∧ (∀ z < 6, c.kp z = at' c.zoneTuning (5 * z) ∧ c.ki z = at' c.zoneTuning (5 * z + 1)
        ∧ c.band z = at' c.zoneTuning (5 * z + 2) ∧ c.slewUp z = at' c.zoneTuning (5 * z + 3)
        ∧ c.slewDown z = at' c.zoneTuning (5 * z + 4))
    ∧ (c.chillKp = at' c.chillTuning 0 ∧ c.chillKi = at' c.chillTuning 1 ∧ c.trimLimit = at' c.chillTuning 2
      ∧ c.idleValve = at' c.chillTuning 3
      ∧ ∀ r < 8, c.valveMin r = at' c.chillTuning (4 + 2 * r) ∧ c.holdValve r = at' c.chillTuning (5 + 2 * r))

/-- The items of the recipe tables by the words that hold them (Table 12.5). A curve's breakpoints are those within its
count. -/
def recipeItems (r : Recipe) : Prop :=
  let at' (ws : List Word) (i : Nat) : Nat := (ws.getD i 0).toNat
  (r.zoneTag = at' r.zoneCurves 0
      ∧ ∀ z < 6, r.zonePoints z = at' r.zoneCurves (1 + z)
          ∧ (r.zonePoints z ≤ 12 → ∀ k, 1 ≤ k → k ≤ 3 →
            (r.zoneCurve z k).length = r.zonePoints z
              ∧ ∀ i < r.zonePoints z, (r.zoneCurve z k)[i]? =
                  some (at' r.zoneCurves (7 + 48 * z + 4 * i), (at' r.zoneCurves (7 + 48 * z + 4 * i + k) : Int))))
    ∧ (r.exhaustTag = at' r.exhaustCurve 0 ∧ r.exhaustPoints = at' r.exhaustCurve 1
      ∧ (r.exhaustPoints ≤ 8 → r.damperCurve.length = r.exhaustPoints
          ∧ ∀ i < r.exhaustPoints, r.damperCurve[i]? =
              some (at' r.exhaustCurve (2 + 2 * i), (at' r.exhaustCurve (3 + 2 * i) : Int))))
    ∧ (r.chillTag = at' r.chillCurves 0 ∧ r.chillTarget = at' r.chillCurves 1 ∧ r.nominalExit = at' r.chillCurves 2
      ∧ r.feedGain = at' r.chillCurves 3 ∧ r.lookLead = at' r.chillCurves 4
      ∧ ∀ k < 8, r.rollPoints k = at' r.chillCurves (5 + k)
          ∧ (r.rollPoints k ≤ 8 → (r.rollCurve k).length = r.rollPoints k
            ∧ ∀ i < r.rollPoints k, (r.rollCurve k)[i]? =
                some (at' r.chillCurves (13 + 16 * k + 2 * i), (at' r.chillCurves (14 + 16 * k + 2 * i) : Int))))
    ∧ (r.doseTag = at' r.doseWindows 0
      ∧ ∀ k < 4, r.doseMin k = at' r.doseWindows (5 + 5 * k) ∧ r.doseMax k = at' r.doseWindows (6 + 5 * k)
          ∧ r.exitLow k = at' r.doseWindows (7 + 5 * k) ∧ r.exitHigh k = at' r.doseWindows (8 + 5 * k)
          ∧ r.chillExitMax k = at' r.doseWindows (9 + 5 * k))

/-- The 21 words of STATUS (Table 12.5, codes of Table 12.3). Bits the table does not name are 0 (assumption 22), and word
8 has its two tags in the order of word 7 (assumption 37). -/
def statusHolds (v : View) (ws : List Word) : Prop :=
  let w (i : Nat) : Word := ws.getD i 0
  ws.length = 21
    ∧ w 0 = v.publication ∧ w 1 = v.number
    ∧ w 2 = BitVec.ofNat 32 (2 ^ 24 * nodeNumber v.node + 2 ^ 16 * dryerNumber v.dryer + 2 ^ 8 * requestNumber v.held
        + standNumber v.stand)
    ∧ (∀ z < 6, (w 3).toNat / 16 ^ z % 16 = zoneNumber (v.zones.getD z .off)) ∧ (w 3).toNat < 2 ^ 24
    ∧ w 4 = BitVec.ofNat 32 v.v ∧ w 5 = BitVec.ofNat 32 v.vs ∧ w 6 = BitVec.ofNat 32 (yesNumber v.complete)
    ∧ w 7 = BitVec.ofNat 32 (2 ^ 16 * v.zoneTag + v.exhaustTag)
    ∧ w 8 = BitVec.ofNat 32 (2 ^ 16 * v.chillTag + v.doseTag)
    ∧ w 9 = BitVec.ofNat 32 (yesNumber v.latch + 2 * yesNumber v.purgeDone
        + 2 ^ 8 * (match v.firstCause with | none => 0 | some c => causeNumber c + 1))
    ∧ w 10 = v.causes.setWidth 32 ∧ w 11 = v.latched.setWidth 32 ∧ w 12 = v.present.setWidth 32
    ∧ (∀ b < 32, (w 13).getLsbD b = true ↔
        (1 ≤ b ∧ b ≤ 7 ∧ v.pendingSet.comm = true) ∨ (b = 10 ∧ v.pendingSet.zoneCurves = true)
          ∨ (b = 11 ∧ v.pendingSet.exhaustCurve = true) ∨ (b = 12 ∧ v.pendingSet.chillCurves = true)
          ∨ (b = 13 ∧ v.pendingSet.doseWindows = true) ∨ (b = 31 ∧ v.clearPending = true))
    ∧ w 14 = BitVec.ofNat 32 (yesNumber v.writing + 2 ^ 8 * resultNumber v.result)
    ∧ w 15 = v.resetCauses.setWidth 32 ∧ w 16 = BitVec.ofNat 32 v.records.length
    ∧ w 17 = v.odometer ∧ w 18 = v.nextMark ∧ w 19 = BitVec.ofNat 32 (yesNumber v.anchored)
    ∧ w 20 = BitVec.ofNat 32 (yesNumber v.inUp + 2 * yesNumber v.outUp)

/-- The 128 entries of TRACK, head first, four words each (R166, R180, Table 12.5); an entry at or beyond the occupancy is
four words of 0, and an absent temperature 0. -/
def trackHolds (v : View) (ws : List Word) : Prop :=
  let w (i k : Nat) : Word := ws.getD (4 * i + k) 0
  ws.length = 512
    ∧ (∀ i < 128, v.records.length ≤ i → ∀ k < 4, w i k = 0)
    ∧ ∀ i < 128, ∀ g : Segment, v.records[i]? = some g →
        (w i 0).getLsbD 31 = true ∧ (w i 0).getLsbD 30 = g.judged ∧ (w i 0).getLsbD 29 = g.exitTemp.isSome
          ∧ (w i 0).getLsbD 28 = g.chillTemp.isSome
          ∧ (g.cls ≤ 3 → (w i 0).toNat / 2 ^ 26 % 4 = g.cls)
          ∧ (∀ r : WasteReason, (w i 0).getLsbD (15 + reasonNumber (some r)) = decide (r ∈ g.reasons))
          ∧ (w i 0).toNat % 2 ^ 16 = g.seq.toNat
          ∧ w i 1 = g.mark ∧ w i 2 = BitVec.ofNat 32 g.dose
          ∧ (w i 3).toNat / 2 ^ 16 = (BitVec.ofInt 16 (g.exitTemp.getD 0)).toNat
          ∧ (w i 3).toNat % 2 ^ 16 = (BitVec.ofInt 16 (g.chillTemp.getD 0)).toNat

/-- READ (R166, R180): the entries asked for, from the copy the option names, or from the enable mask, the published view
or the identity; the view number for STATUS, TRACK and COUNTERS alone; nothing changes but the reply. The tables have the
ids and classes of Table 11.3 and the entries of Table 12.5, every item stands in the word Table 12.5 gives it, and the
words of STATUS, TRACK, COUNTERS and IDENTITY are those of Table 12.5 (the bits it does not name, and the order of word 8 of
STATUS: assumptions 22 and 37; that serial number and revision are fixed in each part: assumption 3). -/
def Obligations.ReadReturnsTheEntries : Prop :=
  (∀ (s : State) (r : Request) (tb : TableId), s.svc.node ≠ .loading → TableId.ofCode r.table.toNat = some tb →
    1 ≤ r.count.toNat → r.index.toNat + r.count.toNat ≤ tb.entries →
    r.payload.length = r.count.toNat * tb.entryWords →
    (tb.cls = .commissioning ∨ tb.cls = .recipe → r.option = 0 ∨ r.option = 1) →
    ∃ reply content, exec (.read r) s = .next { s with lastReply := some reply }
      ∧ reply.status = .done
      ∧ reply.payload = (content.drop (r.index.toNat * tb.entryWords)).take (r.count.toNat * tb.entryWords)
      ∧ reply.view = (if tb = .status ∨ tb = .track ∨ tb = .counters then s.engine.view.publication else 0)
      ∧ (tb.cls = .commissioning ∨ tb.cls = .recipe →
          content = if r.option = 0 then s.svc.active.words tb else s.svc.shadow.words tb)
      ∧ (tb = .report → content = [s.svc.enable.setWidth 32])
      ∧ (tb = .status → statusHolds s.engine.view content)
      ∧ (tb = .track → trackHolds s.engine.view content)
      ∧ (tb = .counters →
          let v := s.engine.view
          let k (i : Nat) : Word := v.counters.reasons.getD i 0
          content =
            [v.counters.admitted, v.counters.good, v.counters.waste, k 0, k 1, k 2, k 3, k 4, k 5, k 6, k 7, k 8, k 9,
              v.fcsFailed, v.malformed, v.lateCount])
      ∧ (tb = .identity →
          content =
            [0x524A, 6, 640, Config.siliconRevision, (Config.serialNumber >>> 32).setWidth 32,
              Config.serialNumber.setWidth 32]
          ∧ 1 ≤ Config.siliconRevision.toNat))
    ∧ (∀ (n : Nat) (tb : TableId), TableId.ofCode n = some tb ↔
        (n, tb, tb.cls, tb.entries, tb.entryWords) ∈ tableRows)
    ∧ (∀ t : Tables, copyHolds t) ∧ (∀ c : Commissioning, commissioningItems c) ∧ ∀ r : Recipe, recipeItems r

/-- The common checks (R163, Table 11.2), in their order, and the option of a READ (R180): a request that fails one is
refused with its reason and changes nothing but the reply. KIND: a record addressed here of no kind of Table 12.2, in the
lane. TABLE or READ_ONLY: a table that is unknown or whose class bars the kind. RANGE: a READ or WRITE of no entry or of
entries that do not exist. LENGTH: a payload of another length than the kind requires, for every kind. -/
def Obligations.CommonChecksRefuse : Prop :=
  (∀ (s : State) (r : Record), s.svc.node ≠ .loading → addressedHere s r → r.kind = 0 ∨ 13 < r.kind.toNat →
    serveLane [r] s = (s, [{ r with status := 3, reason := 1, view := 0 }]))
    ∧ ∀ (s : State) (r : Request), s.svc.node ≠ .loading →
    let refuses (c : Instr) (why : Reason) : Prop := exec c s = .next { s with lastReply := some ⟨.refused why, 0, r.payload⟩ }
    (TableId.ofCode r.table.toNat = none →
        refuses (.read r) .table ∧ refuses (.write r) .table ∧ refuses (.commit r) .table ∧ refuses (.discard r) .table)
      ∧ (∀ tb, TableId.ofCode r.table.toNat = some tb →
          (tb.cls = .readOnly → refuses (.write r) .readOnly)
            ∧ (tb.cls ≠ .recipe → refuses (.commit r) .table)
            ∧ (tb.cls = .immediate ∨ tb.cls = .readOnly → refuses (.discard r) .table)
            ∧ (r.count = 0 ∨ tb.entries < r.index.toNat + r.count.toNat →
                refuses (.read r) .range ∧ (tb.cls ≠ .readOnly → refuses (.write r) .range))
            ∧ (1 ≤ r.count.toNat → r.index.toNat + r.count.toNat ≤ tb.entries →
                r.payload.length ≠ r.count.toNat * tb.entryWords →
                refuses (.read r) .length ∧ (tb.cls ≠ .readOnly → refuses (.write r) .length))
            ∧ (tb.cls = .recipe → r.payload.length ≠ 2 → refuses (.commit r) .length)
            ∧ (tb.cls = .commissioning ∨ tb.cls = .recipe → r.payload ≠ [] → refuses (.discard r) .length)
            ∧ (1 ≤ r.count.toNat → r.index.toNat + r.count.toNat ≤ tb.entries →
                r.payload.length = r.count.toNat * tb.entryWords → tb.cls = .commissioning ∨ tb.cls = .recipe →
                r.option ≠ 0 → r.option ≠ 1 → refuses (.read r) .range))
      ∧ (r.payload.length ≠ 2 → refuses (.leaveConfig r) .length)
      ∧ (r.payload.length ≠ 1 → refuses (.clearLatched r) .length)
      ∧ (r.payload ≠ [] →
          refuses (.enterConfig r) .length ∧ refuses (.store r) .length ∧ refuses (.clearCauses r) .length
            ∧ refuses (.clearCounters r) .length ∧ refuses (.tripReset r) .length ∧ refuses (.lineReset r) .length
            ∧ ∀ time, exec (.testTrip r time) s =
                .next { s.advanceTo time with lastReply := some ⟨.refused .length, 0, r.payload⟩ })

/-- WRITE and DISCARD (R167). A WRITE replaces the named words of the shadow and no other word of any table, in CONFIG for a
commissioning table that is not pending, in any state for a recipe table that is not pending; REPORT's WRITE replaces the
enable mask at once. A DISCARD makes the shadow equal to its active copy again. Pending tables are refused BUSY, and a
commissioning table outside CONFIG is refused STATE. -/
def Obligations.WriteAndDiscardChangeOneShadow : Prop :=
  (∀ (s : State) (r : Request) (tb : TableId), s.svc.node ≠ .loading → TableId.ofCode r.table.toNat = some tb →
    1 ≤ r.count.toNat → r.index.toNat + r.count.toNat ≤ tb.entries →
    r.payload.length = r.count.toNat * tb.entryWords → s.TablesSized →
    (tb.cls = .commissioning → s.svc.node ≠ .config →
        exec (.write r) s = .next { s with lastReply := some ⟨.refused .state, 0, r.payload⟩ })
      ∧ ((tb.cls = .commissioning ∧ s.svc.node = .config ∧ s.svc.pendingSet.comm = true)
            ∨ (tb.cls = .recipe ∧ s.svc.pendingSet.has tb = true) →
        exec (.write r) s = .next { s with lastReply := some ⟨.refused .busy, 0, r.payload⟩ })
      ∧ ((tb.cls = .commissioning ∧ s.svc.node = .config ∧ s.svc.pendingSet.comm = false)
            ∨ (tb.cls = .recipe ∧ s.svc.pendingSet.has tb = false) →
        ∃ shadow, exec (.write r) s =
            .next { s with svc := { s.svc with shadow := shadow }, lastReply := some ⟨.done, 0, r.payload⟩ }
          ∧ (∀ other, other ≠ tb → shadow.words other = s.svc.shadow.words other)
          ∧ (shadow.words tb).length = (s.svc.shadow.words tb).length
          ∧ ∀ i, (shadow.words tb).getD i 0 =
              if r.index.toNat * tb.entryWords ≤ i
                  ∧ i < r.index.toNat * tb.entryWords + r.count.toNat * tb.entryWords then
                r.payload.getD (i - r.index.toNat * tb.entryWords) 0
              else (s.svc.shadow.words tb).getD i 0)
      ∧ (tb = .report →
        ∃ t, exec (.write r) s = .next t
          ∧ t.svc = { s.svc with enable := (r.payload.getD 0 0).setWidth 16 }
          ∧ t.pins = { s.pins with alertLine := (s.svc.latched &&& (r.payload.getD 0 0).setWidth 16) != 0 }
          ∧ t.lastReply = some ⟨.done, 0, r.payload⟩
          ∧ ChangesOnly s t [.svc, .pins, .lastReply]))
    ∧ ∀ (s : State) (r : Request) (tb : TableId), s.svc.node ≠ .loading → TableId.ofCode r.table.toNat = some tb →
    r.payload = [] →
    ((tb.cls = .commissioning ∧ s.svc.node = .config ∧ s.svc.pendingSet.comm = false)
        ∨ (tb.cls = .recipe ∧ s.svc.pendingSet.has tb = false) →
      ∃ shadow, exec (.discard r) s =
          .next { s with svc := { s.svc with shadow := shadow }, lastReply := some ⟨.done, 0, []⟩ }
        ∧ shadow.words tb = s.svc.active.words tb
        ∧ ∀ other, other ≠ tb → shadow.words other = s.svc.shadow.words other)
      ∧ ((tb.cls = .commissioning ∧ s.svc.node = .config ∧ s.svc.pendingSet.comm = true)
            ∨ (tb.cls = .recipe ∧ s.svc.pendingSet.has tb = true) →
        exec (.discard r) s = .next { s with lastReply := some ⟨.refused .busy, 0, []⟩ })
      ∧ (tb.cls = .commissioning → s.svc.node ≠ .config →
        exec (.discard r) s = .next { s with lastReply := some ⟨.refused .state, 0, []⟩ })

/-- A table is pending where its own item of the set is, the commissioning tables together (R165, R170). -/
def pendingItems (p : PendingSet) : Prop :=
  p.has .zoneCurves = p.zoneCurves ∧ p.has .exhaustCurve = p.exhaustCurve ∧ p.has .chillCurves = p.chillCurves
    ∧ p.has .doseWindows = p.doseWindows
    ∧ ∀ tb ∈ [TableId.node, .cellMap, .geometry, .limits, .inputLines, .zoneTuning, .chillTuning], p.has tb = p.comm

/-- COMMIT (R168): a pending table is refused BUSY; a shadow that fails a check is refused CHECK with the check code and
the entry index; otherwise the table joins the pending set, and no copy changes. -/
def Obligations.CommitJoinsThePendingSet : Prop :=
  (∀ p : PendingSet, pendingItems p)
    ∧ ∀ (s : State) (r : Request) (tb : TableId), s.svc.node ≠ .loading → TableId.ofCode r.table.toNat = some tb →
    tb.cls = .recipe → r.payload.length = 2 →
    (s.svc.pendingSet.has tb = true →
        exec (.commit r) s = .next { s with lastReply := some ⟨.refused .busy, 0, r.payload⟩ })
      ∧ (s.svc.pendingSet.has tb = false → ∀ f, s.svc.shadow.recipe.validate tb = some f →
        exec (.commit r) s = .next { s with lastReply := some ⟨.refused .check, 0, [BitVec.ofNat 32 f.code, f.index]⟩ })
      ∧ (s.svc.pendingSet.has tb = false → s.svc.shadow.recipe.validate tb = none →
        ∃ p, exec (.commit r) s =
            .next { s with svc := { s.svc with pendingSet := p }, lastReply := some ⟨.accepted, 0, [0, 0]⟩ }
          ∧ p.has tb = true ∧ ∀ other, other ≠ tb → p.has other = s.svc.pendingSet.has other)

/-- A check: what must hold, its check code (table id × 256 + check number, Table 12.6), and the entry index that its chapter
gives, none where no chapter gives one (assumption 1). -/
abbrev CheckRow := Prop × Nat × Option Nat

/-- The checks are made in their order, and the first that fails is the one reported (R181): none where all hold. -/
def firstFailure (rows : List CheckRow) (result : Option Failure) : Prop :=
  (result = none ↔ ∀ row ∈ rows, row.1)
    ∧ ∀ f, result = some f →
        ∃ before row after, rows = before ++ row :: after ∧ (∀ p ∈ before, p.1) ∧ ¬ row.1 ∧ f.code = row.2.1
          ∧ ∀ i, row.2.2 = some i → f.index = BitVec.ofNat 32 i

/-- The range checks of the words of a table from `start` on, each with its lowest and highest value, both included. -/
def rangeRows (ws : List Word) (start code : Nat) (index : Nat → Option Nat) (ranges : List (Nat × Nat)) : List CheckRow :=
  ranges.zipIdx.map fun p => (p.1.1 ≤ item ws (start + p.2) ∧ item ws (start + p.2) ≤ p.1.2, code, index p.2)

/-- The checks of the `n` zones or classes of a table, ascending, each one's ranges before its relations (R89, R139). -/
def partRows (n : Nat) (ranges relations : Nat → List CheckRow) : List CheckRow :=
  (List.range n).flatMap fun k => ranges k ++ relations k

/-- The checks of ZONE_CURVES (R89, Table 5.9): the tag; of each zone the count, the fields of the breakpoints within it, and
their strict ascent. -/
def zoneCurveRows (r : Recipe) : List CheckRow :=
  (r.zoneTag ≤ 65535, 2561, some 64)
    :: partRows 6
      (fun z =>
        [ (r.zonePoints z ≤ 12, 2561, some z),
          (∀ i < r.zonePoints z, r.zoneField z i 0 ≤ 20000 ∧ r.zoneField z i 1 ≤ 4000 ∧ r.zoneField z i 2 ≤ 10000
              ∧ r.zoneField z i 3 ≤ 10000, 2561, some z) ])
      (fun z => [(∀ i, i + 1 < r.zonePoints z → r.zoneField z i 0 < r.zoneField z (i + 1) 0, 2562, some z)])

/-- The checks of EXHAUST_CURVE (R97): the tag, the count, the breakpoints within it, then their strict ascent. -/
def exhaustCurveRows (r : Recipe) : List CheckRow :=
  [ (r.exhaustTag ≤ 65535, 2817, some 64), (r.exhaustPoints ≤ 8, 2817, some 64),
    (∀ i < r.exhaustPoints, item r.exhaustCurve (2 + 2 * i) ≤ 20000 ∧ item r.exhaustCurve (3 + 2 * i) ≤ 10000,
      2817, some 64),
    (∀ i, i + 1 < r.exhaustPoints → item r.exhaustCurve (2 + 2 * i) < item r.exhaustCurve (4 + 2 * i), 2818, some 64) ]

/-- The checks of CHILL_CURVES (R134, Table 8.4): every range (the order among them: assumption 20), then the strict ascent
of each roll's curve. -/
def chillCurveRows (r : Recipe) : List CheckRow :=
  rangeRows r.chillCurves 0 3073 (fun _ => some 64) [(0, 65535), (0, 1000), (0, 3000), (0, 1000), (0, 2000)]
    ++ ((List.range 8).map fun k => (r.rollPoints k ≤ 8, 3073, some k))
    ++ ((List.range 8).map fun k =>
        (∀ i < r.rollPoints k, item r.chillCurves (13 + 16 * k + 2 * i) ≤ 20000
            ∧ item r.chillCurves (14 + 16 * k + 2 * i) ≤ 10000, 3073, some k))
    ++ ((List.range 8).map fun k =>
        (∀ i, i + 1 < r.rollPoints k → item r.chillCurves (13 + 16 * k + 2 * i) < item r.chillCurves (15 + 16 * k + 2 * i),
          3074, some k))

/-- The checks of DOSE_WINDOWS (R139, Table 9.2): entry 0, the tag and the words given as 0, which no chapter gives an entry
index; of each class the ranges, then the dose window and the exit band. -/
def doseWindowRows (r : Recipe) : List CheckRow :=
  rangeRows r.doseWindows 0 3329 (fun _ => none) [(0, 65535), (0, 0), (0, 0), (0, 0), (0, 0)]
    ++ partRows 4
      (fun k => rangeRows r.doseWindows (5 + 5 * k) 3329 (fun _ => some k)
        [(0, 4000000000), (0, 4000000000), (0, 3000), (0, 3000), (0, 1000)])
      (fun k => [(r.doseMin k ≤ r.doseMax k, 3331, some k), (r.exitLow k ≤ r.exitHigh k, 3332, some k)])

/-- What COMMIT's checks accept of each recipe table, exactly (R168, R181). ZONE_CURVES (R89): the tag, and of every zone
the count, the fields of its breakpoints within the count and the strict ascent of their speeds. EXHAUST_CURVE (R97) and
CHILL_CURVES (R134) likewise, with the other items of CHILL_CURVES. DOSE_WINDOWS (R139): every field of every class in its
range, dose min at or below dose max and exit band low at or below exit band high in each class, the tag in its range and
the words given as 0 holding 0. And which failure of each table is reported, with its check code and entry index: the first
of the table's checks, in their order, that fails. The zones of ZONE_CURVES and the classes of DOSE_WINDOWS are checked one
after the other, each one's ranges before its relations (R89, R139); that R181's range checks first within each table yields
to that order is the MODEL's choice (assumption 19), and so is the order among ranges where a chapter gives none
(assumption 20). -/
def Obligations.DoseWindowChecks : Prop :=
  (∀ r : Recipe, r.validate .zoneCurves = none ↔
    r.zoneTag ≤ 65535
      ∧ ∀ z < 6, r.zonePoints z ≤ 12
          ∧ (∀ i < r.zonePoints z, r.zoneField z i 0 ≤ 20000 ∧ r.zoneField z i 1 ≤ 4000 ∧ r.zoneField z i 2 ≤ 10000
              ∧ r.zoneField z i 3 ≤ 10000)
          ∧ ∀ i, i + 1 < r.zonePoints z → r.zoneField z i 0 < r.zoneField z (i + 1) 0)
    ∧ (∀ r : Recipe, r.validate .exhaustCurve = none ↔
      r.exhaustTag ≤ 65535 ∧ r.exhaustPoints ≤ 8
        ∧ (∀ i < r.exhaustPoints, item r.exhaustCurve (2 + 2 * i) ≤ 20000 ∧ item r.exhaustCurve (3 + 2 * i) ≤ 10000)
        ∧ ∀ i, i + 1 < r.exhaustPoints → item r.exhaustCurve (2 + 2 * i) < item r.exhaustCurve (4 + 2 * i))
    ∧ (∀ r : Recipe, r.validate .chillCurves = none ↔
      r.chillTag ≤ 65535 ∧ r.chillTarget ≤ 1000 ∧ r.nominalExit ≤ 3000 ∧ r.feedGain ≤ 1000 ∧ r.lookLead ≤ 2000
        ∧ ∀ k < 8, r.rollPoints k ≤ 8
            ∧ (∀ i < r.rollPoints k, item r.chillCurves (13 + 16 * k + 2 * i) ≤ 20000
                ∧ item r.chillCurves (14 + 16 * k + 2 * i) ≤ 10000)
            ∧ ∀ i, i + 1 < r.rollPoints k →
                item r.chillCurves (13 + 16 * k + 2 * i) < item r.chillCurves (15 + 16 * k + 2 * i))
    ∧ (∀ r : Recipe, r.validate .doseWindows = none ↔
    (r.doseTag ≤ 65535 ∧ (∀ i, 1 ≤ i → i ≤ 4 → item r.doseWindows i = 0))
      ∧ ∀ k < 4, r.doseMin k ≤ 4000000000 ∧ r.doseMax k ≤ 4000000000 ∧ r.exitLow k ≤ 3000 ∧ r.exitHigh k ≤ 3000
          ∧ r.chillExitMax k ≤ 1000 ∧ r.doseMin k ≤ r.doseMax k ∧ r.exitLow k ≤ r.exitHigh k)
    ∧ (∀ r : Recipe, firstFailure (zoneCurveRows r) (r.validate .zoneCurves))
    ∧ (∀ r : Recipe, firstFailure (exhaustCurveRows r) (r.validate .exhaustCurve))
    ∧ (∀ r : Recipe, firstFailure (chillCurveRows r) (r.validate .chillCurves))
    ∧ ∀ r : Recipe, firstFailure (doseWindowRows r) (r.validate .doseWindows)

/-- The checks of NODE (Table 2.2, R170): ranges of station, P, early, late, warn, loss, speed hold and sensor hold; the loss
time above the warn time. -/
def nodeRows (c : Commissioning) : List CheckRow :=
  rangeRows c.node 0 257 (fun _ => none)
      [(0, 250), (500, 10000), (25, 75), (110, 300), (1, 1000), (2, 2000), (0, 5000), (0, 5000)]
    ++ [(item c.node 4 < item c.node 5, 261, none)]

/-- The checks of LIMITS (Tables 4.6, 5.8, 6.3 and 8.5; R65, R88, R97, R135, R160): ranges in the order of Table 12.5, with
entry index 64 for chill supply max; creep ≤ run threshold ≤ vmax; LEL trip level above LEL alarm. -/
def limitRows (c : Commissioning) : List CheckRow :=
  rangeRows c.limits 0 1025 (fun i => if i = 18 then some 64 else none)
      ([(1000, 20000), (50, 2000), (50, 20000), (0, 16), (0, 2000), (300, 1500), (0, 10000), (0, 10000), (10, 600),
          (20, 1000), (0, 1000), (2, 50), (30, 900), (10, 600), (0, 6000), (1, 100), (1, 60), (0, 120), (50, 400)]
        ++ (List.replicate 6 [(500, 4000), (0, 500), (0, 10000), (0, 4000), (0, 4000), (0, 10000), (0, 10000),
            (0, 10000), (0, 10000)]).flatten)
    ++ [(item c.limits 1 ≤ item c.limits 2, 1030, none), (item c.limits 2 ≤ item c.limits 0, 1030, none),
        (item c.limits 8 < item c.limits 9, 1031, none)]

/-- The checks of GEOMETRY (Table 7.3, R118, R119): ranges, with the item's zone or roll or 64; zone order; exit order; roll
order; capacity; advance. -/
def geometryRows (c : Commissioning) : List CheckRow :=
  let g (i : Nat) : Nat := item c.geometry i
  rangeRows c.geometry 0 769
      (fun i => [64, 64, 64, 64, 64, 0, 1, 2, 3, 4, 5, 0, 1, 2, 3, 4, 5, 0, 1, 2, 3, 4, 5, 6, 7][i]?)
      ([(1, 6), (1, 8), (0, 240000), (0, 240000), (100, 2000)] ++ List.replicate 20 (0, 240000))
    ++ ((List.range 6).map fun z =>
        (z < g 0 → g (5 + z) < g (11 + z) ∧ (z ≠ 0 → g (11 + (z - 1)) ≤ g (5 + z)), 776, some z))
    ++ [(g (11 + (g 0 - 1)) ≤ g 2 ∧ g 2 < g 3, 777, some 64)]
    ++ ((List.range 8).map fun r =>
        (r < g 1 → (if r = 0 then g 2 ≤ g 17 else g (17 + (r - 1)) < g (17 + r)) ∧ (r + 1 = g 1 → g (17 + r) < g 3),
          778, some r))
    ++ [(g 3 ≤ 120 * g 4, 779, some 64), (item c.limits 0 * item c.node 1 ≤ 4 * g 4 * 1000000, 780, some 64)]

/-- The checks of CELL_MAP (R181, R13, Table 12.3): each entry UNUSED, or a known channel with a cell up to 255 (entry index:
assumption 21); no cell twice and no channel twice, the later of the two reported (of several such pairs: assumption 34);
every required channel mapped. -/
def cellMapRows (c : Commissioning) : List CheckRow :=
  let ch (k : Nat) : Nat := item c.cellMap k % 65536
  let cell (k : Nat) : Nat := item c.cellMap k / 65536
  let mapped (n : Nat) : Prop := ∃ k < 64, ch k = n
  ((List.range 64).map fun i =>
      (ch i = 0 ∨ (((1 ≤ ch i ∧ ch i ≤ 16) ∨ (32 ≤ ch i ∧ ch i ≤ 55)) ∧ cell i ≤ 255), 513, some i))
    ++ ((List.range 64).map fun i => (¬ (ch i ≠ 0 ∧ ∃ j < i, ch j ≠ 0 ∧ cell j = cell i), 525, some i))
    ++ ((List.range 64).map fun i => (¬ (ch i ≠ 0 ∧ ∃ j < i, ch j = ch i), 526, some i))
    ++ [(mapped 1 ∧ mapped 3 ∧ (∀ z < 6, z < item c.geometry 0 → mapped (7 + z) ∧ mapped (32 + z))
          ∧ (∀ r < 8, r < item c.geometry 1 → mapped (45 + r)), 527, some 64)]

/-- The checks of INPUT_LINES (mode, action and filter time of each line, R154), ZONE_TUNING (R87) and CHILL_TUNING
(R135). -/
def tuningRows (c : Commissioning) : List CheckRow :=
  rangeRows c.inputLines 0 1281 (fun i => some (i / 3)) (List.replicate 4 [(0, 5), (0, 1), (0, 50)]).flatten
    ++ rangeRows c.zoneTuning 0 1537 (fun i => some (i / 5))
        (List.replicate 6 [(0, 5000), (0, 5000), (1, 500), (1, 5000), (1, 5000)]).flatten
    ++ rangeRows c.chillTuning 0 1793 (fun i => if i < 4 then some 64 else some ((i - 4) / 2))
        ([(0, 5000), (0, 5000), (0, 5000), (0, 10000)] ++ List.replicate 16 (0, 10000))

/-- What LEAVE_CONFIG accepts, exactly, and which failure it reports (R170, R181): the checks of NODE, LIMITS, GEOMETRY,
CELL_MAP, INPUT_LINES, ZONE_TUNING and CHILL_TUNING, in that order and in the order of each table's chapter; the shadows are
accepted where every one holds, and otherwise the first that does not is reported, with its check code and with the entry
index its chapter gives (where none gives one, the index is free: assumption 1). The order among ranges where a chapter gives
none, a CELL_MAP entry's own index, and which of several duplicate pairs is reported, are the MODEL's (assumptions 20, 21,
34). In particular, which commissioning shadow it refuses for relations between items (R170, R65, R97, R118, R119, R13): an
accepted one has the loss time above the warn time, creep ≤ run threshold ≤ vmax, the LEL trip level above the alarm, zones
in order, the exit pyrometer between dryer end and chill exit, the rolls in order between the exit pyrometer and the chill
exit, the capacity and advance bounds, no two used CELL_MAP entries with one cell or one channel, and every required channel
mapped. And the entry index of a chill supply max out of range is 64 (R135), where the LIMITS items before it and NODE
pass. -/
def Obligations.AcceptedCommissioningIsOrdered : Prop :=
  (∀ c : Commissioning, c.validate = none →
    c.warnTime < c.lossTime ∧ c.creep ≤ c.runThreshold ∧ c.runThreshold ≤ c.vmax ∧ c.lelAlarm < c.lelTrip
      ∧ (1 ≤ c.zoneCount ∧ c.zoneCount ≤ 6 ∧ 1 ≤ c.rollCount ∧ c.rollCount ≤ 8)
      ∧ (∀ z < c.zoneCount, c.zoneStart z < c.zoneEnd z ∧ (z ≠ 0 → c.zoneEnd (z - 1) ≤ c.zoneStart z))
      ∧ c.dryerEnd ≤ c.exitPosition ∧ c.exitPosition < c.chillExit
      ∧ c.exitPosition ≤ c.rollContact 0
      ∧ (∀ r, r + 1 < c.rollCount → c.rollContact r < c.rollContact (r + 1))
      ∧ c.rollContact (c.rollCount - 1) < c.chillExit
      ∧ c.chillExit ≤ 120 * c.segmentLength ∧ c.vmax * c.period ≤ 4 * c.segmentLength * 1000000
      ∧ (∀ i < 64, ∀ j < 64, i ≠ j → c.mapChannel i ≠ 0 → c.mapChannel j ≠ 0 →
          c.mapCell i ≠ c.mapCell j ∧ c.mapChannel i ≠ c.mapChannel j)
      ∧ (∀ ch ∈ [1, 3], (c.cellOf ch).isSome = true)
      ∧ (∀ z < c.zoneCount, (c.cellOf (7 + z)).isSome = true ∧ (c.cellOf (32 + z)).isSome = true)
      ∧ (∀ r < c.rollCount, (c.cellOf (45 + r)).isSome = true))
    ∧ (∀ c d : Commissioning, d.validate = none → c.node = d.node → (∀ i, i ≠ 18 → item c.limits i = item d.limits i) →
        c.chillSupplyMax < 50 ∨ 400 < c.chillSupplyMax → c.validate = some ⟨4 * 256 + 1, 64⟩)
    ∧ ∀ c : Commissioning,
        firstFailure (nodeRows c ++ limitRows c ++ geometryRows c ++ cellMapRows c ++ tuningRows c) c.validate

/-- ENTER_CONFIG and LEAVE_CONFIG (R169, R170): the order of their judgements, and what each does when it is taken. -/
def Obligations.ConfigIsEnteredAndLeft : Prop :=
  ∀ (s : State) (r : Request), s.svc.node ≠ .loading →
    (r.payload = [] → s.svc.writing = none → s.engine.dryer.state = .cold →
        ¬ (s.svc.node = .config ∧ s.svc.pendingSet.comm = true) →
        exec (.enterConfig r) s =
          .next { s with
            svc := { s.svc with node := .config, shadow := { s.svc.shadow with comm := s.svc.active.comm } }
            pins := { s.pins with heatRequest := false }
            lastReply := some ⟨.done, 0, []⟩ })
      ∧ (r.payload = [] → s.svc.writing.isSome = true ∨ (s.svc.node = .config ∧ s.svc.pendingSet.comm = true) →
        exec (.enterConfig r) s = .next { s with lastReply := some ⟨.refused .busy, 0, []⟩ })
      ∧ (r.payload = [] → s.svc.writing = none → s.engine.dryer.state ≠ .cold →
        ¬ (s.svc.node = .config ∧ s.svc.pendingSet.comm = true) →
        exec (.enterConfig r) s = .next { s with lastReply := some ⟨.refused .state, 0, []⟩ })
      ∧ (r.payload.length = 2 → s.svc.node = .operate →
        exec (.leaveConfig r) s = .next { s with lastReply := some ⟨.refused .state, 0, r.payload⟩ })
      ∧ (r.payload.length = 2 → s.svc.node = .config → s.svc.writing.isSome = true ∨ s.svc.pendingSet.comm = true →
        exec (.leaveConfig r) s = .next { s with lastReply := some ⟨.refused .busy, 0, r.payload⟩ })
      ∧ (r.payload.length = 2 → s.svc.node = .config → s.svc.writing = none → s.svc.pendingSet.comm = false →
        (∀ f, s.svc.shadow.comm.validate = some f →
          exec (.leaveConfig r) s =
            .next { s with lastReply := some ⟨.refused .check, 0, [BitVec.ofNat 32 f.code, f.index]⟩ })
          ∧ (s.svc.shadow.comm.validate = none →
            exec (.leaveConfig r) s =
              .next { s with
                svc := { s.svc with pendingSet := { s.svc.pendingSet with comm := true } }
                lastReply := some ⟨.accepted, 0, [0, 0]⟩ }))

/-- STORE and its completion (R172): the image is taken at acceptance and the marker made invalid; a written image makes
the marker valid and the result OK; a failed write leaves it invalid, with FAILED, STORE_FAIL and STORE_INVALID. A second
STORE is refused BUSY, and one of the built-in defaults STATE. What the image holds after a failed write is the MODEL's
choice (assumption 33), and this statement does not say. -/
def Obligations.StoreWritesTheActiveTables : Prop :=
  ∀ (s : State) (r : Request), s.svc.node ≠ .loading → r.payload = [] →
    (s.svc.defaultsActive = true → exec (.store r) s = .next { s with lastReply := some ⟨.refused .state, 0, []⟩ })
      ∧ (s.svc.defaultsActive = false → s.svc.writing.isSome = true →
        exec (.store r) s = .next { s with lastReply := some ⟨.refused .busy, 0, []⟩ })
      ∧ (s.svc.defaultsActive = false → s.svc.writing = none →
        exec (.store r) s =
          .next { s with
            svc := { s.svc with writing := some s.svc.active.comm }
            nv := { s.nv with marker := false }
            lastReply := some ⟨.accepted, 0, []⟩ })
      ∧ ∀ image, s.svc.writing = some image →
        exec (.storeCompletion true) s =
            .next { s with svc := { s.svc with writing := none, result := .ok }, nv := ⟨image, true⟩ }
          ∧ ∃ t, exec (.storeCompletion false) s = .next t
              ∧ t.nv.marker = false
              ∧ t.svc =
                  { s.svc with
                    writing := none
                    result := .failed
                    latched := s.svc.latched ||| Flag.storeFail.mask ||| Flag.storeInvalid.mask }
              ∧ ChangesOnly s t [.nv, .svc, .pins]

/-- CLEAR_LATCHED (R174): each flag of the mask's low half whose present condition (presentNow, Table 11.4) does not hold is
cleared, no other flag changes, and the reply word holds the flags still latched; ALERT is formed anew (R175). The present
conditions that the part acts on are those of Table 11.4, flag by flag, by the bits of Table 12.3; that only active zones'
findings count, and SPEED_INVALID's after a longer hold, are the MODEL's reading (assumptions 28, 38). CLEAR_CAUSES empties the reset
causes, and CLEAR_COUNTERS sets the pending clear (R176). -/
def Obligations.ClearsDoWhatTheySay : Prop :=
  (∀ (s : State) (f : Flag), (s.presentOf f = true ↔ presentNow s f)
      ∧ f.bit = flagNumber f ∧ f.mask = BitVec.ofNat 16 (2 ^ flagNumber f)
      ∧ ∀ m, hasFlag m f = m.getLsbD (flagNumber f))
    ∧ ∀ (s : State) (r : Request), s.svc.node ≠ .loading →
    (∀ w, r.payload = [w] →
        ∃ t, exec (.clearLatched r) s = .next t
          ∧ (∀ f : Flag, t.svc.latched.getLsbD (flagNumber f) = true ↔
              s.svc.latched.getLsbD (flagNumber f) = true ∧ (w.getLsbD (flagNumber f) = true → presentNow s f))
          ∧ t.lastReply = some ⟨.done, 0, [t.svc.latched.setWidth 32]⟩
          ∧ t.svc = { s.svc with latched := t.svc.latched }
          ∧ t.pins = { s.pins with alertLine := (t.svc.latched &&& s.svc.enable) != 0 }
          ∧ ChangesOnly s t [.svc, .pins, .lastReply])
      ∧ (r.payload = [] →
        exec (.clearCauses r) s =
            .next { s with svc := { s.svc with resetCauses := 0 }, lastReply := some ⟨.done, 0, []⟩ }
          ∧ exec (.clearCounters r) s =
            .next { s with svc := { s.svc with clearPending := true }, lastReply := some ⟨.accepted, 0, []⟩ })

/-- TRIP_RESET (R156, R157): judged in the order of Table 10.5; an accepted one clears the latch, the causes and the first
cause, drives TRIP low and forms HEAT_REQUEST anew, and leaves both marks, purge-done and the flag TRIP as they are.
TEST_TRIP (R158): refused STATE in RUN; in any other dryer state a trip with cause TEST arrives. -/
def Obligations.TripRequestsAreJudged : Prop :=
  (∀ (s : State) (r : Request), s.svc.node ≠ .loading → r.payload = [] →
    let holds :=
      (∃ k < 4, (s.svc.active.comm.lineMode k = .high ∧ (s.trip.filter k).taken = some true)
          ∨ (s.svc.active.comm.lineMode k = .low ∧ (s.trip.filter k).taken = some false))
        ∨ s.trip.breakCell = true ∨ s.engine.exhaust.level = true
    (s.trip.latch = false → exec (.tripReset r) s = .next { s with lastReply := some ⟨.done, 0, []⟩ })
      ∧ (s.trip.latch = true → s.trip.purgeDone = false →
        exec (.tripReset r) s = .next { s with lastReply := some ⟨.refused .purging, 0, []⟩ })
      ∧ (s.trip.latch = true → s.trip.purgeDone = true → holds →
        exec (.tripReset r) s = .next { s with lastReply := some ⟨.refused .active, 0, []⟩ })
      ∧ (s.trip.latch = true → s.trip.purgeDone = true → ¬ holds →
        exec (.tripReset r) s =
          .next { s with
            trip := { s.trip with latch := false, causes := 0, firstCause := none }
            pins := { s.pins with
              tripLine := false
              heatRequest := s.engine.dryer.state.heated && s.svc.node == .operate && !s.trip.tripMark }
            lastReply := some ⟨.done, 0, []⟩ }))
    ∧ ∀ (s : State) (r : Request) (time : Nat), s.svc.node ≠ .loading → r.payload = [] →
    (s.engine.dryer.state = .run →
        exec (.testTrip r time) s = .next { s.advanceTo time with lastReply := some ⟨.refused .state, 0, []⟩ })
      ∧ (s.engine.dryer.state ≠ .run →
        exec (.testTrip r time) s =
          .next { (s.advanceTo time).tripArrives .test with lastReply := some ⟨.done, 0, []⟩ })

/-- LINE_RESET (R177): refused BUSY with a STORE in flight; accepted in CONFIG, or with the dryer COLD and the latch clear,
and the reset is then due; refused STATE otherwise. -/
def Obligations.LineResetIsJudgedInOrder : Prop :=
  ∀ (s : State) (r : Request), s.svc.node ≠ .loading → r.payload = [] →
    (s.svc.writing.isSome = true →
        exec (.lineReset r) s = .next { s with lastReply := some ⟨.refused .busy, 0, []⟩ })
      ∧ (s.svc.writing = none →
        s.svc.node = .config ∨ (s.engine.dryer.state = .cold ∧ s.trip.latch = false) →
        exec (.lineReset r) s =
          .next { s with svc := { s.svc with lineResetDue := true }, lastReply := some ⟨.done, 0, []⟩ })
      ∧ (s.svc.writing = none → s.svc.node = .operate → s.engine.dryer.state ≠ .cold ∨ s.trip.latch = true →
        exec (.lineReset r) s = .next { s with lastReply := some ⟨.refused .state, 0, []⟩ })

/-! ### Invariants of every step -/

/-- The output lines as their rules give them: HEAT_REQUEST is high in a heated dryer state of an OPERATE node with the
latch clear and the trip mark clear (R63), TRIP with the latch set or while LOADING (R150), ALERT where a latched flag is
enabled (R175). -/
def linesAsRuled (s : State) : Prop :=
  (s.pins.heatRequest = true ↔
      (s.engine.dryer.state = .preheat ∨ s.engine.dryer.state = .ready ∨ s.engine.dryer.state = .run
          ∨ s.engine.dryer.state = .hold)
        ∧ s.svc.node = .operate ∧ s.trip.latch = false ∧ s.trip.tripMark = false)
    ∧ (s.pins.tripLine = true ↔ s.trip.latch = true ∨ s.svc.node = .loading)
    ∧ (s.pins.alertLine = true ↔
      ∃ f : Flag, s.svc.latched.getLsbD (flagNumber f) = true ∧ s.svc.enable.getLsbD (flagNumber f) = true)

/-- HEAT_REQUEST, TRIP and ALERT stand at the levels of R63, R150 and R175 after every step from a state where they do. -/
def Obligations.LinesStayFormed : Prop :=
  (∀ s : State, s.LinesFormed ↔ linesAsRuled s) ∧ ∀ s t : State, s.LinesFormed → step s = .next t → t.LinesFormed

/-- Admitted equals good plus waste plus the occupancy, modulo 2^32, at reset and after every step, for the counters as
they stand and as they are published (R144). -/
def Obligations.CountersStayBalanced : Prop :=
  State.reset.CountersBalanced ∧ ∀ s t : State, s.CountersBalanced → step s = .next t → t.CountersBalanced

/-- The trip record stays consistent: causes and a first cause exactly while the latch is set, the purge timer exactly
while the purge of a latched trip is not done (R147 to R149, R157). The track keeps its ranges and never holds more than
128 records (R99, R102, R108, R111). And with accepted tables its records stay one length apart in mark and one apart in
seq, up to the next mark and the next seq, none of them past the chill exit (R109, R115, R119); this with the invariants of
the tables, of LOADING and of the track's ranges. -/
def Obligations.TripAndTrackStayConsistent : Prop :=
  ∀ s t : State, step s = .next t →
    (s.trip.Consistent → t.trip.Consistent) ∧ (s.TrackInRange → t.TrackInRange)
      ∧ (s.TablesAccepted → s.LoadingReset → s.TrackInRange → s.TrackSpaced → t.TrackSpaced)

/-- No value outside its range reaches an active copy (R181, R165, R168, R170), and what is pending has been validated and
stays as validated; every copy of every table keeps its size (Table 12.5). -/
def Obligations.ActiveCopiesStayAccepted : Prop :=
  ∀ s t : State, step s = .next t → (s.TablesAccepted → t.TablesAccepted) ∧ (s.TablesSized → t.TablesSized)

/-- Every output value stays from 0 to 100.00 %, published or not, while the tables in use are accepted ones (Table 1.4,
R36, R39). -/
def Obligations.OutputsStayInRange : Prop :=
  ∀ s t : State, s.TablesAccepted → s.OutputsInRange → step s = .next t → t.OutputsInRange

/-- While LOADING the blocks hold their reset values (R15, R42, R146), and a CONFIG node's dryer is COLD (R60, R169). -/
def Obligations.LoadingAndConfigStayAtRest : Prop :=
  ∀ s t : State, s.LoadingReset → s.ConfigCold → step s = .next t → t.LoadingReset ∧ t.ConfigCold

/-- A flag stays latched while its present condition holds (R174, Table 11.4): after every step from a state where it does,
with the two invariants that a reset and a change of the zone count need. -/
def Obligations.PresentConditionsStayLatched : Prop :=
  ∀ s t : State, s.LoadingReset → s.InactiveZonesClear → s.PresentLatched → step s = .next t →
    t.InactiveZonesClear ∧ t.PresentLatched

/-- The state after reset meets every invariant stated here. -/
def Obligations.ResetMeetsEveryInvariant : Prop :=
  State.reset.LinesFormed ∧ State.reset.TrackInRange ∧ State.reset.TrackSpaced ∧ State.reset.trip.Consistent
    ∧ State.reset.TablesAccepted ∧ State.reset.TablesSized ∧ State.reset.OutputsInRange ∧ State.reset.LoadingReset
    ∧ State.reset.ConfigCold ∧ State.reset.InactiveZonesClear ∧ State.reset.PresentLatched
end

