-- ==== Sys2Proof/Laws/State.lean ====
section
/-!
SUPPORT. What each update of the state leaves in each field, so that no later proof unfolds an update.
-/
namespace Sys2Proof.Machine

variable (s : State)

@[simp] theorem State.formHeat_port :
    (s.formHeat).port = s.port := rfl
@[simp] theorem State.formHeat_sup :
    (s.formHeat).sup = s.sup := rfl
@[simp] theorem State.formHeat_engine :
    (s.formHeat).engine = s.engine := rfl
@[simp] theorem State.formHeat_trip :
    (s.formHeat).trip = s.trip := rfl
@[simp] theorem State.formHeat_svc :
    (s.formHeat).svc = s.svc := rfl
@[simp] theorem State.formHeat_nv :
    (s.formHeat).nv = s.nv := rfl
@[simp] theorem State.formHeat_pins :
    (s.formHeat).pins = { s.pins with heatRequest := s.heatLevel } := rfl
@[simp] theorem State.formHeat_localTime :
    (s.formHeat).localTime = s.localTime := rfl
@[simp] theorem State.formHeat_sent :
    (s.formHeat).sent = s.sent := rfl
@[simp] theorem State.formHeat_lastReply :
    (s.formHeat).lastReply = s.lastReply := rfl
@[simp] theorem State.formHeat_choices :
    (s.formHeat).choices = s.choices := rfl
@[simp] theorem State.formHeat_pending :
    (s.formHeat).pending = s.pending := rfl

@[simp] theorem State.formTrip_port :
    (s.formTrip).port = s.port := rfl
@[simp] theorem State.formTrip_sup :
    (s.formTrip).sup = s.sup := rfl
@[simp] theorem State.formTrip_engine :
    (s.formTrip).engine = s.engine := rfl
@[simp] theorem State.formTrip_trip :
    (s.formTrip).trip = s.trip := rfl
@[simp] theorem State.formTrip_svc :
    (s.formTrip).svc = s.svc := rfl
@[simp] theorem State.formTrip_nv :
    (s.formTrip).nv = s.nv := rfl
@[simp] theorem State.formTrip_pins :
    (s.formTrip).pins = { s.pins with tripLine := s.tripLevel } := rfl
@[simp] theorem State.formTrip_localTime :
    (s.formTrip).localTime = s.localTime := rfl
@[simp] theorem State.formTrip_sent :
    (s.formTrip).sent = s.sent := rfl
@[simp] theorem State.formTrip_lastReply :
    (s.formTrip).lastReply = s.lastReply := rfl
@[simp] theorem State.formTrip_choices :
    (s.formTrip).choices = s.choices := rfl
@[simp] theorem State.formTrip_pending :
    (s.formTrip).pending = s.pending := rfl

@[simp] theorem State.formAlert_port :
    (s.formAlert).port = s.port := rfl
@[simp] theorem State.formAlert_sup :
    (s.formAlert).sup = s.sup := rfl
@[simp] theorem State.formAlert_engine :
    (s.formAlert).engine = s.engine := rfl
@[simp] theorem State.formAlert_trip :
    (s.formAlert).trip = s.trip := rfl
@[simp] theorem State.formAlert_svc :
    (s.formAlert).svc = s.svc := rfl
@[simp] theorem State.formAlert_nv :
    (s.formAlert).nv = s.nv := rfl
@[simp] theorem State.formAlert_pins :
    (s.formAlert).pins = { s.pins with alertLine := s.alertLevel } := rfl
@[simp] theorem State.formAlert_localTime :
    (s.formAlert).localTime = s.localTime := rfl
@[simp] theorem State.formAlert_sent :
    (s.formAlert).sent = s.sent := rfl
@[simp] theorem State.formAlert_lastReply :
    (s.formAlert).lastReply = s.lastReply := rfl
@[simp] theorem State.formAlert_choices :
    (s.formAlert).choices = s.choices := rfl
@[simp] theorem State.formAlert_pending :
    (s.formAlert).pending = s.pending := rfl

@[simp] theorem State.formLines_port :
    (s.formLines).port = s.port := rfl
@[simp] theorem State.formLines_sup :
    (s.formLines).sup = s.sup := rfl
@[simp] theorem State.formLines_engine :
    (s.formLines).engine = s.engine := rfl
@[simp] theorem State.formLines_trip :
    (s.formLines).trip = s.trip := rfl
@[simp] theorem State.formLines_svc :
    (s.formLines).svc = s.svc := rfl
@[simp] theorem State.formLines_nv :
    (s.formLines).nv = s.nv := rfl
@[simp] theorem State.formLines_pins :
    (s.formLines).pins = { s.pins with heatRequest := s.heatLevel, tripLine := s.tripLevel, alertLine := s.alertLevel } := rfl
@[simp] theorem State.formLines_localTime :
    (s.formLines).localTime = s.localTime := rfl
@[simp] theorem State.formLines_sent :
    (s.formLines).sent = s.sent := rfl
@[simp] theorem State.formLines_lastReply :
    (s.formLines).lastReply = s.lastReply := rfl
@[simp] theorem State.formLines_choices :
    (s.formLines).choices = s.choices := rfl
@[simp] theorem State.formLines_pending :
    (s.formLines).pending = s.pending := rfl

@[simp] theorem State.latchFlag_port (f : Flag) :
    (State.latchFlag f s).port = s.port := rfl
@[simp] theorem State.latchFlag_sup (f : Flag) :
    (State.latchFlag f s).sup = s.sup := rfl
@[simp] theorem State.latchFlag_engine (f : Flag) :
    (State.latchFlag f s).engine = s.engine := rfl
@[simp] theorem State.latchFlag_trip (f : Flag) :
    (State.latchFlag f s).trip = s.trip := rfl
@[simp] theorem State.latchFlag_svc (f : Flag) :
    (State.latchFlag f s).svc = { s.svc with latched := s.svc.latched ||| f.mask } := rfl
@[simp] theorem State.latchFlag_nv (f : Flag) :
    (State.latchFlag f s).nv = s.nv := rfl
@[simp] theorem State.latchFlag_pins (f : Flag) :
    (State.latchFlag f s).pins = { s.pins with alertLine := ((s.svc.latched ||| f.mask) &&& s.svc.enable) != 0 } := rfl
@[simp] theorem State.latchFlag_localTime (f : Flag) :
    (State.latchFlag f s).localTime = s.localTime := rfl
@[simp] theorem State.latchFlag_sent (f : Flag) :
    (State.latchFlag f s).sent = s.sent := rfl
@[simp] theorem State.latchFlag_lastReply (f : Flag) :
    (State.latchFlag f s).lastReply = s.lastReply := rfl
@[simp] theorem State.latchFlag_choices (f : Flag) :
    (State.latchFlag f s).choices = s.choices := rfl
@[simp] theorem State.latchFlag_pending (f : Flag) :
    (State.latchFlag f s).pending = s.pending := rfl

@[simp] theorem State.elapse_port (dt : Nat) :
    (s.elapse dt).port = s.port := rfl
@[simp] theorem State.elapse_sup (dt : Nat) :
    (s.elapse dt).sup = s.sup.elapse dt := rfl
@[simp] theorem State.elapse_engine (dt : Nat) :
    (s.elapse dt).engine = s.engine := rfl
@[simp] theorem State.elapse_trip (dt : Nat) :
    (s.elapse dt).trip = s.trip.elapse dt := rfl
@[simp] theorem State.elapse_svc (dt : Nat) :
    (s.elapse dt).svc = s.svc := rfl
@[simp] theorem State.elapse_nv (dt : Nat) :
    (s.elapse dt).nv = s.nv := rfl
@[simp] theorem State.elapse_pins (dt : Nat) :
    (s.elapse dt).pins = s.pins := rfl
@[simp] theorem State.elapse_localTime (dt : Nat) :
    (s.elapse dt).localTime = s.localTime + dt := rfl
@[simp] theorem State.elapse_sent (dt : Nat) :
    (s.elapse dt).sent = s.sent := rfl
@[simp] theorem State.elapse_lastReply (dt : Nat) :
    (s.elapse dt).lastReply = s.lastReply := rfl
@[simp] theorem State.elapse_choices (dt : Nat) :
    (s.elapse dt).choices = s.choices := rfl
@[simp] theorem State.elapse_pending (dt : Nat) :
    (s.elapse dt).pending = s.pending := rfl

@[simp] theorem State.clearCountersNow_port :
    (s.clearCountersNow).port = { s.port with fcsFailed := 0, malformed := 0 } := rfl
@[simp] theorem State.clearCountersNow_sup :
    (s.clearCountersNow).sup = { s.sup with lateCount := 0 } := rfl
@[simp] theorem State.clearCountersNow_engine :
    (s.clearCountersNow).engine = { s.engine with counters := .cleared s.engine.track.records.length } := rfl
@[simp] theorem State.clearCountersNow_trip :
    (s.clearCountersNow).trip = s.trip := rfl
@[simp] theorem State.clearCountersNow_svc :
    (s.clearCountersNow).svc = s.svc := rfl
@[simp] theorem State.clearCountersNow_nv :
    (s.clearCountersNow).nv = s.nv := rfl
@[simp] theorem State.clearCountersNow_pins :
    (s.clearCountersNow).pins = s.pins := rfl
@[simp] theorem State.clearCountersNow_localTime :
    (s.clearCountersNow).localTime = s.localTime := rfl
@[simp] theorem State.clearCountersNow_sent :
    (s.clearCountersNow).sent = s.sent := rfl
@[simp] theorem State.clearCountersNow_lastReply :
    (s.clearCountersNow).lastReply = s.lastReply := rfl
@[simp] theorem State.clearCountersNow_choices :
    (s.clearCountersNow).choices = s.choices := rfl
@[simp] theorem State.clearCountersNow_pending :
    (s.clearCountersNow).pending = s.pending := rfl

@[simp] theorem State.countFcs_port :
    (s.countFcs).port = { s.port with fcsFailed := s.port.fcsFailed + 1 } := rfl
@[simp] theorem State.countFcs_sup :
    (s.countFcs).sup = s.sup := rfl
@[simp] theorem State.countFcs_engine :
    (s.countFcs).engine = s.engine := rfl
@[simp] theorem State.countFcs_trip :
    (s.countFcs).trip = s.trip := rfl
@[simp] theorem State.countFcs_svc :
    (s.countFcs).svc = s.svc := rfl
@[simp] theorem State.countFcs_nv :
    (s.countFcs).nv = s.nv := rfl
@[simp] theorem State.countFcs_pins :
    (s.countFcs).pins = s.pins := rfl
@[simp] theorem State.countFcs_localTime :
    (s.countFcs).localTime = s.localTime := rfl
@[simp] theorem State.countFcs_sent :
    (s.countFcs).sent = s.sent := rfl
@[simp] theorem State.countFcs_lastReply :
    (s.countFcs).lastReply = s.lastReply := rfl
@[simp] theorem State.countFcs_choices :
    (s.countFcs).choices = s.choices := rfl
@[simp] theorem State.countFcs_pending :
    (s.countFcs).pending = s.pending := rfl

@[simp] theorem State.countMalformed_port :
    (s.countMalformed).port = { s.port with malformed := s.port.malformed + 1 } := rfl
@[simp] theorem State.countMalformed_sup :
    (s.countMalformed).sup = s.sup := rfl
@[simp] theorem State.countMalformed_engine :
    (s.countMalformed).engine = s.engine := rfl
@[simp] theorem State.countMalformed_trip :
    (s.countMalformed).trip = s.trip := rfl
@[simp] theorem State.countMalformed_svc :
    (s.countMalformed).svc = s.svc := rfl
@[simp] theorem State.countMalformed_nv :
    (s.countMalformed).nv = s.nv := rfl
@[simp] theorem State.countMalformed_pins :
    (s.countMalformed).pins = s.pins := rfl
@[simp] theorem State.countMalformed_localTime :
    (s.countMalformed).localTime = s.localTime := rfl
@[simp] theorem State.countMalformed_sent :
    (s.countMalformed).sent = s.sent := rfl
@[simp] theorem State.countMalformed_lastReply :
    (s.countMalformed).lastReply = s.lastReply := rfl
@[simp] theorem State.countMalformed_choices :
    (s.countMalformed).choices = s.choices := rfl
@[simp] theorem State.countMalformed_pending :
    (s.countMalformed).pending = s.pending := rfl

@[simp] theorem State.setShadow_port (x : Tables) :
    (s.setShadow x).port = s.port := rfl
@[simp] theorem State.setShadow_sup (x : Tables) :
    (s.setShadow x).sup = s.sup := rfl
@[simp] theorem State.setShadow_engine (x : Tables) :
    (s.setShadow x).engine = s.engine := rfl
@[simp] theorem State.setShadow_trip (x : Tables) :
    (s.setShadow x).trip = s.trip := rfl
@[simp] theorem State.setShadow_svc (x : Tables) :
    (s.setShadow x).svc = { s.svc with shadow := x } := rfl
@[simp] theorem State.setShadow_nv (x : Tables) :
    (s.setShadow x).nv = s.nv := rfl
@[simp] theorem State.setShadow_pins (x : Tables) :
    (s.setShadow x).pins = s.pins := rfl
@[simp] theorem State.setShadow_localTime (x : Tables) :
    (s.setShadow x).localTime = s.localTime := rfl
@[simp] theorem State.setShadow_sent (x : Tables) :
    (s.setShadow x).sent = s.sent := rfl
@[simp] theorem State.setShadow_lastReply (x : Tables) :
    (s.setShadow x).lastReply = s.lastReply := rfl
@[simp] theorem State.setShadow_choices (x : Tables) :
    (s.setShadow x).choices = s.choices := rfl
@[simp] theorem State.setShadow_pending (x : Tables) :
    (s.setShadow x).pending = s.pending := rfl

@[simp] theorem State.setPending_port (x : PendingSet) :
    (s.setPending x).port = s.port := rfl
@[simp] theorem State.setPending_sup (x : PendingSet) :
    (s.setPending x).sup = s.sup := rfl
@[simp] theorem State.setPending_engine (x : PendingSet) :
    (s.setPending x).engine = s.engine := rfl
@[simp] theorem State.setPending_trip (x : PendingSet) :
    (s.setPending x).trip = s.trip := rfl
@[simp] theorem State.setPending_svc (x : PendingSet) :
    (s.setPending x).svc = { s.svc with pendingSet := x } := rfl
@[simp] theorem State.setPending_nv (x : PendingSet) :
    (s.setPending x).nv = s.nv := rfl
@[simp] theorem State.setPending_pins (x : PendingSet) :
    (s.setPending x).pins = s.pins := rfl
@[simp] theorem State.setPending_localTime (x : PendingSet) :
    (s.setPending x).localTime = s.localTime := rfl
@[simp] theorem State.setPending_sent (x : PendingSet) :
    (s.setPending x).sent = s.sent := rfl
@[simp] theorem State.setPending_lastReply (x : PendingSet) :
    (s.setPending x).lastReply = s.lastReply := rfl
@[simp] theorem State.setPending_choices (x : PendingSet) :
    (s.setPending x).choices = s.choices := rfl
@[simp] theorem State.setPending_pending (x : PendingSet) :
    (s.setPending x).pending = s.pending := rfl

@[simp] theorem State.setEnable_port (w : Word) :
    (s.setEnable w).port = s.port := rfl
@[simp] theorem State.setEnable_sup (w : Word) :
    (s.setEnable w).sup = s.sup := rfl
@[simp] theorem State.setEnable_engine (w : Word) :
    (s.setEnable w).engine = s.engine := rfl
@[simp] theorem State.setEnable_trip (w : Word) :
    (s.setEnable w).trip = s.trip := rfl
@[simp] theorem State.setEnable_svc (w : Word) :
    (s.setEnable w).svc = { s.svc with enable := BitVec.ofNat 16 w.toNat } := rfl
@[simp] theorem State.setEnable_nv (w : Word) :
    (s.setEnable w).nv = s.nv := rfl
@[simp] theorem State.setEnable_pins (w : Word) :
    (s.setEnable w).pins = { s.pins with alertLine := (s.svc.latched &&& BitVec.ofNat 16 w.toNat) != 0 } := rfl
@[simp] theorem State.setEnable_localTime (w : Word) :
    (s.setEnable w).localTime = s.localTime := rfl
@[simp] theorem State.setEnable_sent (w : Word) :
    (s.setEnable w).sent = s.sent := rfl
@[simp] theorem State.setEnable_lastReply (w : Word) :
    (s.setEnable w).lastReply = s.lastReply := rfl
@[simp] theorem State.setEnable_choices (w : Word) :
    (s.setEnable w).choices = s.choices := rfl
@[simp] theorem State.setEnable_pending (w : Word) :
    (s.setEnable w).pending = s.pending := rfl

@[simp] theorem State.setLatched_port (m : BitVec 16) :
    (s.setLatched m).port = s.port := rfl
@[simp] theorem State.setLatched_sup (m : BitVec 16) :
    (s.setLatched m).sup = s.sup := rfl
@[simp] theorem State.setLatched_engine (m : BitVec 16) :
    (s.setLatched m).engine = s.engine := rfl
@[simp] theorem State.setLatched_trip (m : BitVec 16) :
    (s.setLatched m).trip = s.trip := rfl
@[simp] theorem State.setLatched_svc (m : BitVec 16) :
    (s.setLatched m).svc = { s.svc with latched := m } := rfl
@[simp] theorem State.setLatched_nv (m : BitVec 16) :
    (s.setLatched m).nv = s.nv := rfl
@[simp] theorem State.setLatched_pins (m : BitVec 16) :
    (s.setLatched m).pins = { s.pins with alertLine := (m &&& s.svc.enable) != 0 } := rfl
@[simp] theorem State.setLatched_localTime (m : BitVec 16) :
    (s.setLatched m).localTime = s.localTime := rfl
@[simp] theorem State.setLatched_sent (m : BitVec 16) :
    (s.setLatched m).sent = s.sent := rfl
@[simp] theorem State.setLatched_lastReply (m : BitVec 16) :
    (s.setLatched m).lastReply = s.lastReply := rfl
@[simp] theorem State.setLatched_choices (m : BitVec 16) :
    (s.setLatched m).choices = s.choices := rfl
@[simp] theorem State.setLatched_pending (m : BitVec 16) :
    (s.setLatched m).pending = s.pending := rfl

@[simp] theorem State.toConfig_port :
    (s.toConfig).port = s.port := rfl
@[simp] theorem State.toConfig_sup :
    (s.toConfig).sup = s.sup := rfl
@[simp] theorem State.toConfig_engine :
    (s.toConfig).engine = s.engine := rfl
@[simp] theorem State.toConfig_trip :
    (s.toConfig).trip = s.trip := rfl
@[simp] theorem State.toConfig_svc :
    (s.toConfig).svc = { s.svc with node := .config, shadow := { s.svc.shadow with comm := s.svc.active.comm } } := rfl
@[simp] theorem State.toConfig_nv :
    (s.toConfig).nv = s.nv := rfl
@[simp] theorem State.toConfig_pins :
    (s.toConfig).pins = { s.pins with heatRequest := false } := by
  simp only [State.toConfig, State.formHeat, State.heatLevel]
  simp
@[simp] theorem State.toConfig_localTime :
    (s.toConfig).localTime = s.localTime := rfl
@[simp] theorem State.toConfig_sent :
    (s.toConfig).sent = s.sent := rfl
@[simp] theorem State.toConfig_lastReply :
    (s.toConfig).lastReply = s.lastReply := rfl
@[simp] theorem State.toConfig_choices :
    (s.toConfig).choices = s.choices := rfl
@[simp] theorem State.toConfig_pending :
    (s.toConfig).pending = s.pending := rfl

@[simp] theorem State.beginStore_port :
    (s.beginStore).port = s.port := rfl
@[simp] theorem State.beginStore_sup :
    (s.beginStore).sup = s.sup := rfl
@[simp] theorem State.beginStore_engine :
    (s.beginStore).engine = s.engine := rfl
@[simp] theorem State.beginStore_trip :
    (s.beginStore).trip = s.trip := rfl
@[simp] theorem State.beginStore_svc :
    (s.beginStore).svc = { s.svc with writing := some s.svc.active.comm } := rfl
@[simp] theorem State.beginStore_nv :
    (s.beginStore).nv = { s.nv with marker := false } := rfl
@[simp] theorem State.beginStore_pins :
    (s.beginStore).pins = s.pins := rfl
@[simp] theorem State.beginStore_localTime :
    (s.beginStore).localTime = s.localTime := rfl
@[simp] theorem State.beginStore_sent :
    (s.beginStore).sent = s.sent := rfl
@[simp] theorem State.beginStore_lastReply :
    (s.beginStore).lastReply = s.lastReply := rfl
@[simp] theorem State.beginStore_choices :
    (s.beginStore).choices = s.choices := rfl
@[simp] theorem State.beginStore_pending :
    (s.beginStore).pending = s.pending := rfl

@[simp] theorem State.setResetN_port (b : Bool) :
    (s.setResetN b).port = s.port := rfl
@[simp] theorem State.setResetN_sup (b : Bool) :
    (s.setResetN b).sup = s.sup := rfl
@[simp] theorem State.setResetN_engine (b : Bool) :
    (s.setResetN b).engine = s.engine := rfl
@[simp] theorem State.setResetN_trip (b : Bool) :
    (s.setResetN b).trip = s.trip := rfl
@[simp] theorem State.setResetN_svc (b : Bool) :
    (s.setResetN b).svc = s.svc := rfl
@[simp] theorem State.setResetN_nv (b : Bool) :
    (s.setResetN b).nv = s.nv := rfl
@[simp] theorem State.setResetN_pins (b : Bool) :
    (s.setResetN b).pins = { s.pins with resetN := b } := rfl
@[simp] theorem State.setResetN_localTime (b : Bool) :
    (s.setResetN b).localTime = s.localTime := rfl
@[simp] theorem State.setResetN_sent (b : Bool) :
    (s.setResetN b).sent = s.sent := rfl
@[simp] theorem State.setResetN_lastReply (b : Bool) :
    (s.setResetN b).lastReply = s.lastReply := rfl
@[simp] theorem State.setResetN_choices (b : Bool) :
    (s.setResetN b).choices = s.choices := rfl
@[simp] theorem State.setResetN_pending (b : Bool) :
    (s.setResetN b).pending = s.pending := rfl

@[simp] theorem State.setLink_port (p : Port) (b : Bool) :
    (s.setLink p b).port = if s.pins.resetN then s.port.setLink p b else s.port := rfl
@[simp] theorem State.setLink_sup (p : Port) (b : Bool) :
    (s.setLink p b).sup = s.sup := rfl
@[simp] theorem State.setLink_engine (p : Port) (b : Bool) :
    (s.setLink p b).engine = s.engine := rfl
@[simp] theorem State.setLink_trip (p : Port) (b : Bool) :
    (s.setLink p b).trip = s.trip := rfl
@[simp] theorem State.setLink_svc (p : Port) (b : Bool) :
    (s.setLink p b).svc = s.svc := rfl
@[simp] theorem State.setLink_nv (p : Port) (b : Bool) :
    (s.setLink p b).nv = s.nv := rfl
@[simp] theorem State.setLink_pins (p : Port) (b : Bool) :
    (s.setLink p b).pins = s.pins.report p b := rfl
@[simp] theorem State.setLink_localTime (p : Port) (b : Bool) :
    (s.setLink p b).localTime = s.localTime := rfl
@[simp] theorem State.setLink_sent (p : Port) (b : Bool) :
    (s.setLink p b).sent = s.sent := rfl
@[simp] theorem State.setLink_lastReply (p : Port) (b : Bool) :
    (s.setLink p b).lastReply = s.lastReply := rfl
@[simp] theorem State.setLink_choices (p : Port) (b : Bool) :
    (s.setLink p b).choices = s.choices := rfl
@[simp] theorem State.setLink_pending (p : Port) (b : Bool) :
    (s.setLink p b).pending = s.pending := rfl

end Sys2Proof.Machine
end

