-- ==== Sys2Proof/Laws/Ops.lean ====
section
/-!
SUPPORT. What each shared operation can do, said once: the lemmas that later proofs cite in place of unfolding it.
-/
namespace Sys2Proof.Machine

/-! ### Local time -/

theorem State.advanceTo_loading (s : State) (time : Nat) (h : s.svc.node = .loading) : s.advanceTo time = s := by
  simp [State.advanceTo, h]

theorem State.advanceTo_running (s : State) (time : Nat) (h : s.svc.node ≠ .loading) :
    s.advanceTo time = s.elapse (time - s.localTime) := by
  simp [State.advanceTo, h]

/-- All that `advanceTo` can do. -/
theorem State.advanceTo_spec (s : State) (time : Nat) :
    s.advanceTo time = s ∨ s.advanceTo time = s.elapse (time - s.localTime) := by
  unfold State.advanceTo; split <;> simp

@[simp] theorem State.advanceTo_port (s : State) (time : Nat) :
    (s.advanceTo time).port = s.port := by
  unfold State.advanceTo; split <;> rfl
@[simp] theorem State.advanceTo_engine (s : State) (time : Nat) :
    (s.advanceTo time).engine = s.engine := by
  unfold State.advanceTo; split <;> rfl
@[simp] theorem State.advanceTo_svc (s : State) (time : Nat) :
    (s.advanceTo time).svc = s.svc := by
  unfold State.advanceTo; split <;> rfl
@[simp] theorem State.advanceTo_nv (s : State) (time : Nat) :
    (s.advanceTo time).nv = s.nv := by
  unfold State.advanceTo; split <;> rfl
@[simp] theorem State.advanceTo_pins (s : State) (time : Nat) :
    (s.advanceTo time).pins = s.pins := by
  unfold State.advanceTo; split <;> rfl
@[simp] theorem State.advanceTo_sent (s : State) (time : Nat) :
    (s.advanceTo time).sent = s.sent := by
  unfold State.advanceTo; split <;> rfl
@[simp] theorem State.advanceTo_lastReply (s : State) (time : Nat) :
    (s.advanceTo time).lastReply = s.lastReply := by
  unfold State.advanceTo; split <;> rfl
@[simp] theorem State.advanceTo_choices (s : State) (time : Nat) :
    (s.advanceTo time).choices = s.choices := by
  unfold State.advanceTo; split <;> rfl
@[simp] theorem State.advanceTo_pending (s : State) (time : Nat) :
    (s.advanceTo time).pending = s.pending := by
  unfold State.advanceTo; split <;> rfl

/-- Every part of the trip record but the purge timer and the stability timers stands as time passes. -/
@[simp] theorem TripUnit.elapse_latch (t : TripUnit) (dt : Nat) : (t.elapse dt).latch = t.latch := rfl
@[simp] theorem TripUnit.elapse_causes (t : TripUnit) (dt : Nat) : (t.elapse dt).causes = t.causes := rfl
@[simp] theorem TripUnit.elapse_firstCause (t : TripUnit) (dt : Nat) : (t.elapse dt).firstCause = t.firstCause := rfl
@[simp] theorem TripUnit.elapse_tripMark (t : TripUnit) (dt : Nat) : (t.elapse dt).tripMark = t.tripMark := rfl
@[simp] theorem TripUnit.elapse_flushMark (t : TripUnit) (dt : Nat) : (t.elapse dt).flushMark = t.flushMark := rfl
@[simp] theorem TripUnit.elapse_purgeDone (t : TripUnit) (dt : Nat) : (t.elapse dt).purgeDone = t.purgeDone := rfl
@[simp] theorem TripUnit.elapse_breakCell (t : TripUnit) (dt : Nat) : (t.elapse dt).breakCell = t.breakCell := rfl

theorem TripUnit.elapse_taken (t : TripUnit) (dt k : Nat) : ((t.elapse dt).filter k).taken = (t.filter k).taken := by
  simp only [TripUnit.elapse, TripUnit.filter, List.getD_eq_getElem?_getD, List.getElem?_map]
  cases t.filters[k]? <;> rfl

theorem State.advanceTo_latch (s : State) (time : Nat) : (s.advanceTo time).trip.latch = s.trip.latch := by
  unfold State.advanceTo; split <;> rfl
theorem State.advanceTo_causes (s : State) (time : Nat) : (s.advanceTo time).trip.causes = s.trip.causes := by
  unfold State.advanceTo; split <;> rfl
theorem State.advanceTo_firstCause (s : State) (time : Nat) :
    (s.advanceTo time).trip.firstCause = s.trip.firstCause := by
  unfold State.advanceTo; split <;> rfl
theorem State.advanceTo_tripMark (s : State) (time : Nat) : (s.advanceTo time).trip.tripMark = s.trip.tripMark := by
  unfold State.advanceTo; split <;> rfl
theorem State.advanceTo_flushMark (s : State) (time : Nat) : (s.advanceTo time).trip.flushMark = s.trip.flushMark := by
  unfold State.advanceTo; split <;> rfl
theorem State.advanceTo_purgeDone (s : State) (time : Nat) : (s.advanceTo time).trip.purgeDone = s.trip.purgeDone := by
  unfold State.advanceTo; split <;> rfl
theorem State.advanceTo_taken (s : State) (time k : Nat) :
    ((s.advanceTo time).trip.filter k).taken = (s.trip.filter k).taken := by
  unfold State.advanceTo; split
  · rfl
  · exact TripUnit.elapse_taken _ _ _

/-! ### Latching -/

/-- All that `latchIf` can do. -/
theorem State.latchIf_spec (c : Bool) (f : Flag) (s : State) :
    (c = false ∧ State.latchIf c f s = s) ∨ (c = true ∧ State.latchIf c f s = State.latchFlag f s) := by
  cases c <;> simp [State.latchIf]

@[simp] theorem State.latchIf_port (c : Bool) (f : Flag) (s : State) :
    (State.latchIf c f s).port = s.port := by
  unfold State.latchIf; split <;> rfl
@[simp] theorem State.latchIf_sup (c : Bool) (f : Flag) (s : State) :
    (State.latchIf c f s).sup = s.sup := by
  unfold State.latchIf; split <;> rfl
@[simp] theorem State.latchIf_engine (c : Bool) (f : Flag) (s : State) :
    (State.latchIf c f s).engine = s.engine := by
  unfold State.latchIf; split <;> rfl
@[simp] theorem State.latchIf_trip (c : Bool) (f : Flag) (s : State) :
    (State.latchIf c f s).trip = s.trip := by
  unfold State.latchIf; split <;> rfl
@[simp] theorem State.latchIf_nv (c : Bool) (f : Flag) (s : State) :
    (State.latchIf c f s).nv = s.nv := by
  unfold State.latchIf; split <;> rfl
@[simp] theorem State.latchIf_localTime (c : Bool) (f : Flag) (s : State) :
    (State.latchIf c f s).localTime = s.localTime := by
  unfold State.latchIf; split <;> rfl
@[simp] theorem State.latchIf_sent (c : Bool) (f : Flag) (s : State) :
    (State.latchIf c f s).sent = s.sent := by
  unfold State.latchIf; split <;> rfl
@[simp] theorem State.latchIf_lastReply (c : Bool) (f : Flag) (s : State) :
    (State.latchIf c f s).lastReply = s.lastReply := by
  unfold State.latchIf; split <;> rfl
@[simp] theorem State.latchIf_choices (c : Bool) (f : Flag) (s : State) :
    (State.latchIf c f s).choices = s.choices := by
  unfold State.latchIf; split <;> rfl
@[simp] theorem State.latchIf_pending (c : Bool) (f : Flag) (s : State) :
    (State.latchIf c f s).pending = s.pending := by
  unfold State.latchIf; split <;> rfl

@[simp] theorem State.latchIf_svc_node (c : Bool) (f : Flag) (s : State) :
    (State.latchIf c f s).svc.node = s.svc.node := by
  unfold State.latchIf; split <;> rfl
@[simp] theorem State.latchIf_svc_active (c : Bool) (f : Flag) (s : State) :
    (State.latchIf c f s).svc.active = s.svc.active := by
  unfold State.latchIf; split <;> rfl
@[simp] theorem State.latchIf_svc_shadow (c : Bool) (f : Flag) (s : State) :
    (State.latchIf c f s).svc.shadow = s.svc.shadow := by
  unfold State.latchIf; split <;> rfl
@[simp] theorem State.latchIf_svc_pendingSet (c : Bool) (f : Flag) (s : State) :
    (State.latchIf c f s).svc.pendingSet = s.svc.pendingSet := by
  unfold State.latchIf; split <;> rfl
@[simp] theorem State.latchIf_svc_clearPending (c : Bool) (f : Flag) (s : State) :
    (State.latchIf c f s).svc.clearPending = s.svc.clearPending := by
  unfold State.latchIf; split <;> rfl
@[simp] theorem State.latchIf_svc_enable (c : Bool) (f : Flag) (s : State) :
    (State.latchIf c f s).svc.enable = s.svc.enable := by
  unfold State.latchIf; split <;> rfl
@[simp] theorem State.latchIf_svc_writing (c : Bool) (f : Flag) (s : State) :
    (State.latchIf c f s).svc.writing = s.svc.writing := by
  unfold State.latchIf; split <;> rfl
@[simp] theorem State.latchIf_svc_result (c : Bool) (f : Flag) (s : State) :
    (State.latchIf c f s).svc.result = s.svc.result := by
  unfold State.latchIf; split <;> rfl
@[simp] theorem State.latchIf_svc_defaultsActive (c : Bool) (f : Flag) (s : State) :
    (State.latchIf c f s).svc.defaultsActive = s.svc.defaultsActive := by
  unfold State.latchIf; split <;> rfl
@[simp] theorem State.latchIf_svc_resetCauses (c : Bool) (f : Flag) (s : State) :
    (State.latchIf c f s).svc.resetCauses = s.svc.resetCauses := by
  unfold State.latchIf; split <;> rfl
@[simp] theorem State.latchIf_svc_lineResetDue (c : Bool) (f : Flag) (s : State) :
    (State.latchIf c f s).svc.lineResetDue = s.svc.lineResetDue := by
  unfold State.latchIf; split <;> rfl

/-! ### A trip's arrival (R147, R148) -/

/-- A trip that finds the latch clear. -/
theorem State.tripArrives_clear (c : Cause) (s : State) (h : s.trip.latch = false) :
    s.tripArrives c = { s with
      trip := s.trip.latched c s.svc.active.comm.purgeTime
      svc := { s.svc with latched := s.svc.latched ||| Flag.trip.mask }
      pins := { s.pins with
        alertLine := ((s.svc.latched ||| Flag.trip.mask) &&& s.svc.enable) != 0
        tripLine := true
        heatRequest := false } } := by
  simp [State.tripArrives, h, State.latchFlag, State.formAlert, State.formTrip, State.formHeat, State.alertLevel,
    State.tripLevel, State.heatLevel, TripUnit.latched]

/-- A trip that finds the latch set. -/
theorem State.tripArrives_set (c : Cause) (s : State) (h : s.trip.latch = true) :
    s.tripArrives c = { s with
      trip := s.trip.retriggered c s.svc.active.comm.purgeTime
      svc := { s.svc with latched := s.svc.latched ||| Flag.trip.mask }
      pins := { s.pins with alertLine := ((s.svc.latched ||| Flag.trip.mask) &&& s.svc.enable) != 0 } } := by
  simp [State.tripArrives, h, State.latchFlag, State.formAlert, State.alertLevel]

@[simp] theorem State.tripArrives_port (c : Cause) (s : State) :
    (s.tripArrives c).port = s.port := by
  unfold State.tripArrives; split <;> rfl
@[simp] theorem State.tripArrives_sup (c : Cause) (s : State) :
    (s.tripArrives c).sup = s.sup := by
  unfold State.tripArrives; split <;> rfl
@[simp] theorem State.tripArrives_engine (c : Cause) (s : State) :
    (s.tripArrives c).engine = s.engine := by
  unfold State.tripArrives; split <;> rfl
@[simp] theorem State.tripArrives_nv (c : Cause) (s : State) :
    (s.tripArrives c).nv = s.nv := by
  unfold State.tripArrives; split <;> rfl
@[simp] theorem State.tripArrives_localTime (c : Cause) (s : State) :
    (s.tripArrives c).localTime = s.localTime := by
  unfold State.tripArrives; split <;> rfl
@[simp] theorem State.tripArrives_sent (c : Cause) (s : State) :
    (s.tripArrives c).sent = s.sent := by
  unfold State.tripArrives; split <;> rfl
@[simp] theorem State.tripArrives_lastReply (c : Cause) (s : State) :
    (s.tripArrives c).lastReply = s.lastReply := by
  unfold State.tripArrives; split <;> rfl
@[simp] theorem State.tripArrives_choices (c : Cause) (s : State) :
    (s.tripArrives c).choices = s.choices := by
  unfold State.tripArrives; split <;> rfl
@[simp] theorem State.tripArrives_pending (c : Cause) (s : State) :
    (s.tripArrives c).pending = s.pending := by
  unfold State.tripArrives; split <;> rfl

@[simp] theorem State.tripArrives_svc (c : Cause) (s : State) :
    (s.tripArrives c).svc = { s.svc with latched := s.svc.latched ||| Flag.trip.mask } := by
  unfold State.tripArrives; split <;> rfl
@[simp] theorem State.tripArrives_latch (c : Cause) (s : State) : (s.tripArrives c).trip.latch = true := by
  cases h : s.trip.latch <;> simp [State.tripArrives, h, TripUnit.latched, TripUnit.retriggered]
@[simp] theorem State.tripArrives_filters (c : Cause) (s : State) : (s.tripArrives c).trip.filters = s.trip.filters := by
  unfold State.tripArrives; split <;> rfl
@[simp] theorem State.tripArrives_breakCell (c : Cause) (s : State) :
    (s.tripArrives c).trip.breakCell = s.trip.breakCell := by
  unfold State.tripArrives; split <;> rfl
@[simp] theorem State.tripArrives_purgeDone (c : Cause) (s : State) : (s.tripArrives c).trip.purgeDone = false := by
  unfold State.tripArrives; split <;> rfl
@[simp] theorem State.tripArrives_purgeTimer (c : Cause) (s : State) :
    (s.tripArrives c).trip.purgeTimer = some s.svc.active.comm.purgeTime := by
  unfold State.tripArrives; split <;> rfl

/-- All that `tripIf` can do. -/
theorem State.tripIf_spec (b : Bool) (c : Cause) (s : State) :
    (b = false ∧ State.tripIf b c s = s) ∨ (b = true ∧ State.tripIf b c s = s.tripArrives c) := by
  cases b <;> simp [State.tripIf]

@[simp] theorem State.tripIf_port (b : Bool) (c : Cause) (s : State) :
    (State.tripIf b c s).port = s.port := by
  unfold State.tripIf; split <;> simp
@[simp] theorem State.tripIf_sup (b : Bool) (c : Cause) (s : State) :
    (State.tripIf b c s).sup = s.sup := by
  unfold State.tripIf; split <;> simp
@[simp] theorem State.tripIf_engine (b : Bool) (c : Cause) (s : State) :
    (State.tripIf b c s).engine = s.engine := by
  unfold State.tripIf; split <;> simp
@[simp] theorem State.tripIf_nv (b : Bool) (c : Cause) (s : State) :
    (State.tripIf b c s).nv = s.nv := by
  unfold State.tripIf; split <;> simp
@[simp] theorem State.tripIf_localTime (b : Bool) (c : Cause) (s : State) :
    (State.tripIf b c s).localTime = s.localTime := by
  unfold State.tripIf; split <;> simp
@[simp] theorem State.tripIf_sent (b : Bool) (c : Cause) (s : State) :
    (State.tripIf b c s).sent = s.sent := by
  unfold State.tripIf; split <;> simp
@[simp] theorem State.tripIf_lastReply (b : Bool) (c : Cause) (s : State) :
    (State.tripIf b c s).lastReply = s.lastReply := by
  unfold State.tripIf; split <;> simp
@[simp] theorem State.tripIf_choices (b : Bool) (c : Cause) (s : State) :
    (State.tripIf b c s).choices = s.choices := by
  unfold State.tripIf; split <;> simp
@[simp] theorem State.tripIf_pending (b : Bool) (c : Cause) (s : State) :
    (State.tripIf b c s).pending = s.pending := by
  unfold State.tripIf; split <;> simp

@[simp] theorem State.tripIf_svc_node (b : Bool) (c : Cause) (s : State) :
    (State.tripIf b c s).svc.node = s.svc.node := by
  unfold State.tripIf; split <;> simp
@[simp] theorem State.tripIf_svc_active (b : Bool) (c : Cause) (s : State) :
    (State.tripIf b c s).svc.active = s.svc.active := by
  unfold State.tripIf; split <;> simp
@[simp] theorem State.tripIf_svc_shadow (b : Bool) (c : Cause) (s : State) :
    (State.tripIf b c s).svc.shadow = s.svc.shadow := by
  unfold State.tripIf; split <;> simp
@[simp] theorem State.tripIf_svc_pendingSet (b : Bool) (c : Cause) (s : State) :
    (State.tripIf b c s).svc.pendingSet = s.svc.pendingSet := by
  unfold State.tripIf; split <;> simp
@[simp] theorem State.tripIf_svc_clearPending (b : Bool) (c : Cause) (s : State) :
    (State.tripIf b c s).svc.clearPending = s.svc.clearPending := by
  unfold State.tripIf; split <;> simp
@[simp] theorem State.tripIf_svc_enable (b : Bool) (c : Cause) (s : State) :
    (State.tripIf b c s).svc.enable = s.svc.enable := by
  unfold State.tripIf; split <;> simp
@[simp] theorem State.tripIf_svc_writing (b : Bool) (c : Cause) (s : State) :
    (State.tripIf b c s).svc.writing = s.svc.writing := by
  unfold State.tripIf; split <;> simp
@[simp] theorem State.tripIf_svc_result (b : Bool) (c : Cause) (s : State) :
    (State.tripIf b c s).svc.result = s.svc.result := by
  unfold State.tripIf; split <;> simp
@[simp] theorem State.tripIf_svc_defaultsActive (b : Bool) (c : Cause) (s : State) :
    (State.tripIf b c s).svc.defaultsActive = s.svc.defaultsActive := by
  unfold State.tripIf; split <;> simp
@[simp] theorem State.tripIf_svc_resetCauses (b : Bool) (c : Cause) (s : State) :
    (State.tripIf b c s).svc.resetCauses = s.svc.resetCauses := by
  unfold State.tripIf; split <;> simp
@[simp] theorem State.tripIf_svc_lineResetDue (b : Bool) (c : Cause) (s : State) :
    (State.tripIf b c s).svc.lineResetDue = s.svc.lineResetDue := by
  unfold State.tripIf; split <;> simp
@[simp] theorem State.tripIf_filters (b : Bool) (c : Cause) (s : State) :
    (State.tripIf b c s).trip.filters = s.trip.filters := by
  unfold State.tripIf; split <;> simp
@[simp] theorem State.tripIf_breakCell (b : Bool) (c : Cause) (s : State) :
    (State.tripIf b c s).trip.breakCell = s.trip.breakCell := by
  unfold State.tripIf; split <;> simp
@[simp] theorem State.tripIf_latch (b : Bool) (c : Cause) (s : State) :
    (State.tripIf b c s).trip.latch = (b || s.trip.latch) := by
  cases b <;> simp [State.tripIf]

/-! ### Stages -/

/-- All that `atStage` can do. -/
theorem State.atStage_spec (s : State) (stage : Stage) (f : Computation → State) :
    s.atStage stage f = s ∨ ∃ c, s.engine.flight = some c ∧ c.stage = stage ∧ s.atStage stage f = f c := by
  unfold State.atStage
  split
  · exact .inl rfl
  · split
    · exact .inr ⟨_, ‹_›, ‹_›, rfl⟩
    · exact .inl rfl

/-- A stage that is the next of the computation in flight takes place. -/
theorem State.atStage_of (s : State) (c : Computation) (stage : Stage) (f : Computation → State)
    (hf : s.engine.flight = some c) (hs : c.stage = stage) : s.atStage stage f = f c := by
  simp [State.atStage, hf, hs]

/-! ### Frames sent -/

@[simp] theorem State.forward_port (s : State) (f : EthFrame) :
    (s.forward f).port = s.port := by
  unfold State.forward; split <;> rfl
@[simp] theorem State.forward_sup (s : State) (f : EthFrame) :
    (s.forward f).sup = s.sup := by
  unfold State.forward; split <;> rfl
@[simp] theorem State.forward_engine (s : State) (f : EthFrame) :
    (s.forward f).engine = s.engine := by
  unfold State.forward; split <;> rfl
@[simp] theorem State.forward_trip (s : State) (f : EthFrame) :
    (s.forward f).trip = s.trip := by
  unfold State.forward; split <;> rfl
@[simp] theorem State.forward_svc (s : State) (f : EthFrame) :
    (s.forward f).svc = s.svc := by
  unfold State.forward; split <;> rfl
@[simp] theorem State.forward_nv (s : State) (f : EthFrame) :
    (s.forward f).nv = s.nv := by
  unfold State.forward; split <;> rfl
@[simp] theorem State.forward_pins (s : State) (f : EthFrame) :
    (s.forward f).pins = s.pins := by
  unfold State.forward; split <;> rfl
@[simp] theorem State.forward_localTime (s : State) (f : EthFrame) :
    (s.forward f).localTime = s.localTime := by
  unfold State.forward; split <;> rfl
@[simp] theorem State.forward_lastReply (s : State) (f : EthFrame) :
    (s.forward f).lastReply = s.lastReply := by
  unfold State.forward; split <;> rfl
@[simp] theorem State.forward_choices (s : State) (f : EthFrame) :
    (s.forward f).choices = s.choices := by
  unfold State.forward; split <;> rfl
@[simp] theorem State.forward_pending (s : State) (f : EthFrame) :
    (s.forward f).pending = s.pending := by
  unfold State.forward; split <;> rfl

theorem State.forward_sent (s : State) (f : EthFrame) :
    (s.forward f).sent = if s.port.outUp then s.sent ++ [f] else s.sent := by
  unfold State.forward; split <;> rfl

/-- Every cell of a processed CYCLE frame leaves as `writeCell` writes it. -/
theorem State.writeCells_getElem? (s : State) (cells : List Cell) (i : Nat) (cell : Cell) (h : cells[i]? = some cell) :
    (s.writeCells cells)[i]? = some (s.writeCell i cell) := by
  unfold State.writeCells
  rw [List.getElem?_map, List.getElem?_zipIdx, h]
  simp only [Option.map_some, Nat.zero_add]

/-! ### The checks of COMMIT and LEAVE_CONFIG -/

/-- A list of tests passes where each of them does. -/
theorem firstSome_eq_none {α : Type} (l : List (Option α)) : firstSome l = none ↔ ∀ x ∈ l, x = none := by
  induction l with
  | nil => simp [firstSome]
  | cons x rest ih => cases x <;> simp [firstSome, ih]

/-- A list of tests that does not pass answers what its first failing test does. -/
theorem firstSome_eq_some {α : Type} (l : List (Option α)) (a : α) :
    firstSome l = some a ↔ ∃ before after, l = before ++ some a :: after ∧ ∀ x ∈ before, x = none := by
  induction l with
  | nil => simp [firstSome]
  | cons x rest ih =>
    cases x with
    | none =>
      simp only [firstSome, ih]
      constructor
      · rintro ⟨b, c, rfl, hb⟩
        exact ⟨none :: b, c, rfl, by simpa using hb⟩
      · rintro ⟨b, c, h, hb⟩
        cases b with
        | nil => simp at h
        | cons y b => exact ⟨b, c, by simpa using (List.cons.inj h).2, fun x hx => hb x (.tail _ hx)⟩
    | some y =>
      simp only [firstSome, Option.some.injEq]
      constructor
      · rintro rfl; exact ⟨[], rest, rfl, by simp⟩
      · rintro ⟨b, c, h, hb⟩
        cases b with
        | nil => simpa using (List.cons.inj h).1
        | cons z b => have := hb z (.head _); rw [this] at h; simp at h

/-- The first answer among `f 0`, …, `f (n - 1)`: what `cellOf` and `outputAt` find. -/
theorem firstSome_tabulate {α : Type} (n : Nat) (f : Nat → Option α) (a : α) :
    firstSome (tabulate n f) = some a ↔ ∃ k < n, f k = some a ∧ ∀ j < k, f j = none := by
  induction n with
  | zero => simp [tabulate, firstSome]
  | succ n ih =>
    have split : tabulate (n + 1) f = tabulate n f ++ [f n] := by simp [tabulate, List.range_succ]
    have append : ∀ (l : List (Option α)) (x : Option α), firstSome (l ++ [x]) = (firstSome l).or x := by
      intro l x
      induction l with
      | nil => cases x <;> simp [firstSome]
      | cons y l ih => cases y <;> simp [firstSome, ih]
    have before : firstSome (tabulate n f) = none ↔ ∀ k < n, f k = none := by
      rw [firstSome_eq_none]; simp [tabulate]
    rw [split, append]
    constructor
    · intro h
      cases ho : firstSome (tabulate n f) with
      | some b =>
        obtain rfl : b = a := by simpa [ho] using h
        obtain ⟨k, hk, h'⟩ := ih.1 ho
        exact ⟨k, by omega, h'⟩
      | none => exact ⟨n, by omega, by simpa [ho] using h, before.1 ho⟩
    · rintro ⟨k, hk, hf, hn⟩
      by_cases hkn : k < n
      · rw [ih.2 ⟨k, hkn, hf, hn⟩]; rfl
      · obtain rfl : k = n := by omega
        rw [before.2 hn]; exact hf

theorem check_spec (ok : Bool) (f : Failure) : (ok = true ∧ check ok f = none) ∨ (ok = false ∧ check ok f = some f) := by
  cases ok <;> simp [check]

/-- The checks of a table's zones or classes pass exactly where each of them does. -/
theorem partChecks_eq_none (n : Nat) (ranges relations : Nat → Option Failure) :
    partChecks n ranges relations = none ↔ ∀ k < n, ranges k = none ∧ relations k = none := by
  simp [partChecks, firstSome_eq_none, tabulate]

/-- What they report: the first part that fails, by its ranges first. -/
theorem partChecks_eq_some (n : Nat) (ranges relations : Nat → Option Failure) (f : Failure) :
    partChecks n ranges relations = some f ↔
      ∃ k < n, (ranges k = some f ∨ (ranges k = none ∧ relations k = some f))
        ∧ ∀ j < k, ranges j = none ∧ relations j = none := by
  have two : ∀ k, firstSome [ranges k, relations k] = (ranges k).or (relations k) := by
    intro k; cases ranges k <;> cases relations k <;> rfl
  simp only [partChecks, firstSome_tabulate, two, Option.or_eq_some_iff, Option.or_eq_none_iff]

end Sys2Proof.Machine
end

