-- ==== Sys2Proof/WellFormed.lean ====
section
/-!
DEFINITION. What a command must satisfy to be one the part can meet: a record declares at most 16 payload words
(R4, Table 12.2), and local time is a 64-bit count (R15).
-/
namespace Sys2Proof

/-- A record that reaches the Service Handler declares 0 to 16 payload words (R4, Table 12.2). -/
def Request.wellFormed (r : Request) : Bool := r.payload.length ≤ 16

/-- Local time is 64 bits wide (R15). -/
def timeWellFormed (time : Nat) : Bool := time < 2 ^ 64

/-- The checks on each command. -/
def Instr.wellFormed : Instr → Bool
  | .powerOn => true
  | .localReset _ => true
  | .localResetRelease => true
  | .lineResetTakesEffect => true
  | .loadEnd => true
  | .portLinkUp _ => true
  | .portLinkDown _ _ => true
  | .frameArrival _ t _ => timeWellFormed t
  | .warnExpiry t => timeWellFormed t
  | .lossExpiry t => timeWellFormed t
  | .speedStage => true
  | .speedHoldRunOut => true
  | .dryerStep t _ => timeWellFormed t
  | .permitTimerReached t => timeWellFormed t
  | .settleTimerReached t => timeWellFormed t
  | .runConfirmReached t => timeWellFormed t
  | .holdDelayReached t => timeWellFormed t
  | .holdLimitReached t => timeWellFormed t
  | .zoneStage t => timeWellFormed t
  | .zoneSensorHoldRunOut _ t => timeWellFormed t
  | .exhaustStage t => timeWellFormed t
  | .lelHoldRunOut t => timeWellFormed t
  | .trackStage => true
  | .chillStage => true
  | .chillSensorHoldRunOut => true
  | .publication => true
  | .breakLineLevelChange _ _ t => timeWellFormed t
  | .breakLineLevelTaken _ t => timeWellFormed t
  | .purgeExpiry t => timeWellFormed t
  | .read r => r.wellFormed
  | .write r => r.wellFormed
  | .commit r => r.wellFormed
  | .discard r => r.wellFormed
  | .enterConfig r => r.wellFormed
  | .leaveConfig r => r.wellFormed
  | .store r => r.wellFormed
  | .storeCompletion _ => true
  | .clearLatched r => r.wellFormed
  | .clearCauses r => r.wellFormed
  | .clearCounters r => r.wellFormed
  | .tripReset r => r.wellFormed
  | .testTrip r t => r.wellFormed && timeWellFormed t
  | .lineReset r => r.wellFormed

end Sys2Proof
end

