-- ==== Sys2Proof/Tests/Slice0.lean ====
section
/-!
SUPPORT. Tests: ill-formed commands, frame bytes written out from Tables 12.1 and 12.2, the manual's worked examples,
and for each obligation with hypotheses a witness that meets them (`witness_<its name>`).
-/
namespace Sys2Proof.Tests

open Sys2Proof.Machine

set_option Elab.async false

/-! ### A small plant (the numbers of examples 1.8, 4.9, 5.10, 6.8 and 8.9 where they give them) -/

/-- A CELL_MAP entry: cell index and channel code (Table 12.5). -/
def mapped (cell channel : Nat) : Word := BitVec.ofNat 32 (cell * 65536 + channel)

def plant : Commissioning where
  node := [12, 2000, 50, 150, 20, 50, 6, 6]
  cellMap :=
    [ mapped 2 1, mapped 3 3, mapped 10 7, mapped 11 8, mapped 12 9, mapped 13 13, mapped 14 16, mapped 15 15,
      mapped 41 14, mapped 20 32, mapped 21 38, mapped 22 33, mapped 23 34, mapped 25 45, mapped 26 46, mapped 27 47,
      mapped 44 44, mapped 28 53, mapped 29 54, mapped 30 55 ] ++ List.replicate 44 0
  geometry := [3, 3, 1300, 3400, 500] ++ [0, 400, 800, 0, 0, 0] ++ [400, 800, 1200, 0, 0, 0]
    ++ [1500, 2100, 2700, 0, 0, 0, 0, 0]
  limits := [20000, 300, 1500, 8, 1000, 500, 1500, 2500, 150, 250, 300, 6, 60, 60, 40, 10, 5, 1, 250]
    ++ (List.replicate 6 [(2100 : Word), 50, 9000, 1200, 900, 3000, 10000, 5000, 2000]).flatten
  inputLines := [1, 0, 10] ++ [4, 1, 0] ++ [0, 0, 0] ++ [5, 0, 5]
  zoneTuning := (List.replicate 6 [(250 : Word), 40, 50, 300, 300]).flatten
  chillTuning := [100, 20, 800, 1000] ++ (List.replicate 8 [(1500 : Word), 3000]).flatten

def zonePoints : List Word :=
  [0, 1500, 4000, 1000, 5000, 1800, 6000, 3000, 12000, 2200, 8500, 6200, 15000, 2350, 10000, 7500]
    ++ List.replicate 32 0

def rollPoints : List Word := [0, 2000, 10000, 5000, 15000, 6500] ++ List.replicate 10 0

def menu : Recipe where
  zoneCurves := [7, 4, 4, 4, 0, 0, 0] ++ zonePoints ++ zonePoints ++ zonePoints ++ List.replicate 144 0
  exhaustCurve := [3, 3, 0, 2000, 10000, 5000, 15000, 6000] ++ List.replicate 10 0
  chillCurves := [4, 280, 1250, 150, 600] ++ [3, 3, 3, 0, 0, 0, 0, 0] ++ rollPoints ++ rollPoints ++ rollPoints
    ++ List.replicate 80 0
  doseWindows := [9, 0, 0, 0, 0] ++ (List.replicate 4 [(1500 : Word), 5000, 1150, 1350, 350]).flatten

/-- The plant in OPERATE, both links UP, nothing in flight, the latch clear. -/
def line : State :=
  { State.reset with
    port := ⟨true, true, .reset, 0, 0⟩
    pins := { State.reset.pins with phyIn := true, phyOut := true, tripLine := false }
    svc := { State.reset.svc with node := .operate, active := ⟨plant, menu⟩, shadow := ⟨plant, menu⟩ } }

/-- The same with other commissioning tables. -/
def lineWith (c : Commissioning) : State := { line with svc := { line.svc with active := ⟨c, menu⟩ } }

/-- The same in CONFIG. -/
def configured : State := { line with svc := { line.svc with node := .config } }

/-- The same with the trip latch set by BREAK_LINE_0, the purge not done. -/
def tripped : State := line.tripArrives (.breakLine 0)

/-- A computation in flight before a stage. -/
def flying (st : Stage) : Computation := ⟨st, 5, false, .operate, true, []⟩

/-- The computation in flight replaced. -/
def inFlight (s : State) (st : Stage) : State := { s with engine := { s.engine with flight := some (flying st) } }

/-- The dryer state replaced. -/
def withDryer (s : State) (d : DryerState) : State :=
  { s with engine := { s.engine with dryer := { s.engine.dryer with state := d } } }

/-- The speeds v and v_s replaced. -/
def atSpeed (s : State) (v : Nat) : State :=
  { s with engine := { s.engine with speed := { s.engine.speed with lastValid := v, v := v, vs := v } } }

/-- The sample set changed. -/
def sampled (s : State) (f : SampleSet → SampleSet) : State :=
  { s with engine := { s.engine with samples := f s.engine.samples } }

/-- The state after a command that answers next. -/
def after (c : Instr) (s : State) : State :=
  match exec c s with
  | .next t => t
  | .fault _ => s
  | .refused _ => s

/-! ### Well-formedness, decoding, bytes -/

theorem test_seventeen_words_refused : (Instr.read ⟨1, 0, 0, 1, List.replicate 17 0⟩).wellFormed = false := by decide

theorem test_sixteen_words_pass : (Instr.write ⟨1, 0, 0, 1, List.replicate 16 0⟩).wellFormed = true := by decide

theorem test_time_past_64_bits_refused : (Instr.warnExpiry (2 ^ 64)).wellFormed = false := by decide

theorem test_test_trip_time_refused : (Instr.testTrip ⟨0, 0, 0, 0, []⟩ (2 ^ 64)).wellFormed = false := by decide

/-- No row of the opcode table gives bits. -/
theorem test_no_word_spells_a_command : decodeTableWord 0 0 = none := by decide

/-- A CYCLE frame, number 0x1234, with one cell (7980, GOOD) and one TRIP_RESET record for station 12, and a byte of
padding (Tables 12.1 and 12.2). -/
def frameExample : List Byte :=
  [1, 1, 0, 0, 0x12, 0x34, 0, 1, 1] ++ [0x1F, 0x2C, 1]
    ++ [1, 11, 0, 0, 0, 0, 0, 0, 0, 12, 0, 0, 0, 0, 0, 0, 0, 0, 0, 0] ++ [0xAA]

theorem test_frame_bytes_are_read :
    parseFrame frameExample
      = some ⟨.cycle, 0x1234, [⟨7980, 1⟩], [⟨1, 11, 0, 0, 12, 0, 0, 0, 0, 0, []⟩], [0xAA]⟩ := by decide

/-- A record that declares 17 words is malformed (R4). -/
theorem test_record_of_seventeen_words :
    parseFrame ([1, 2, 0, 0, 0, 0, 0, 0, 1] ++ [1, 1, 0, 0, 0, 0, 0, 0, 0, 12, 0, 0, 0, 0, 0, 17, 0, 0, 0, 0]
      ++ List.replicate 68 0) = none := by decide

/-! ### The manual's worked examples -/

/-- The plant's tables pass every check, and its recipe is complete. -/
theorem test_plant_is_accepted : plant.validate = none := by decide +kernel

theorem test_menu_is_accepted :
    menu.validate .zoneCurves = none ∧ menu.validate .exhaustCurve = none ∧ menu.validate .chillCurves = none
      ∧ menu.validate .doseWindows = none := by decide +kernel

/-- Step 3 of example 11.8: C above the capacity is refused with word 0 = 779 and word 1 = 64 (12.4). -/
theorem test_leave_config_capacity :
    let bad := { plant with geometry := plant.geometry.set 3 60001 }
    let s := { configured with svc := { configured.svc with shadow := ⟨bad, menu⟩ } }
    (after (.leaveConfig ⟨0, 0, 0, 0, [0, 0]⟩) s).lastReply = some ⟨.refused .check, 0, [779, 64]⟩ := by decide +kernel

/-- R89 and R139: zone 0's speeds do not ascend and zone 1's count is 13, and zone 0 is reported (check 2); with the two
swapped, zone 0's count (check 1). Class 0's dose window upside down before class 1's exit band out of range (check 3). -/
theorem test_order_of_zones_and_classes :
    ({ menu with zoneCurves := (menu.zoneCurves.set 11 0).set 2 13 } : Recipe).validate .zoneCurves = some ⟨2562, 0⟩
      ∧ ({ menu with zoneCurves := (menu.zoneCurves.set 59 0).set 1 13 } : Recipe).validate .zoneCurves = some ⟨2561, 0⟩
      ∧ ({ menu with doseWindows := (menu.doseWindows.set 6 0).set 12 3001 } : Recipe).validate .doseWindows
        = some ⟨3331, 0⟩ := by
  decide +kernel

/-- R178 (assumption 41): a LOCAL reset before a LINE reset that is due discards it. -/
theorem test_line_reset_due_is_discarded :
    let due : State := { line with svc := { line.svc with lineResetDue := true } }
    let t := after (.localReset false) due
    t.svc.lineResetDue = false ∧ t.svc.resetCauses = 3 ∧ (after .lineResetTakesEffect t).svc.resetCauses = 3 := by
  decide +kernel

/-- R135: a chill supply max out of its range, 50 to 400, is reported with entry index 64, and within it passes. -/
theorem test_chill_supply_max_out_of_range :
    ({ plant with limits := plant.limits.set 18 401 } : Commissioning).validate = some ⟨4 * 256 + 1, 64⟩
      ∧ ({ plant with limits := plant.limits.set 18 49 } : Commissioning).validate = some ⟨4 * 256 + 1, 64⟩
      ∧ ({ plant with limits := plant.limits.set 18 400 } : Commissioning).validate = none := by decide +kernel

/-- Example 3.8: the four-breakpoint curve. -/
theorem test_curve_of_example :
    [0, 1875, 7500, 7876, 9375, 12345, 15000].map (curveValue [(0, 2500), (4000, 4000), (10000, 7000), (14000, 6500)])
      = [2500, 3203, 5750, 5938, 6687, 6707, 6500] := by decide +kernel

/-- The tables of example 3.7: vmax 15000, lead 6. -/
def exampleSpeed : Commissioning := { plant with limits := (plant.limits.set 0 15000).set 3 6 }

/-- Example 3.7, computation 1. -/
theorem test_speed_stage_computation_1 :
    (after .speedStage (sampled (inFlight (lineWith exampleSpeed) .speed) fun x =>
      { x with webSpeed := .valid 9000, speedRef := .valid 6001 })).engine.speed = ⟨9000, 9000, 7876, 0, false⟩ := by
  decide +kernel

/-- Example 3.7, computation 5: the hold runs out. -/
theorem test_speed_hold_run_out_computation_5 :
    let s := sampled (atSpeed (inFlight (lineWith exampleSpeed) .speed) 9000) fun x =>
      { x with webSpeed := .invalid, speedRef := .valid 5000 }
    let s := { s with engine := { s.engine with speed := { s.engine.speed with hold := 6000 } } }
    (after .speedHoldRunOut s).engine.speed = ⟨9000, 0, 1875, 8000, true⟩
      ∧ (after .speedHoldRunOut s).svc.latched = 8 := by decide +kernel

/-- Example 4.9, computation 1: COLD to PREHEAT, HEAT_REQUEST high, the permit timer not yet running. -/
theorem test_dryer_step_computation_1 :
    let t := after (.dryerStep 0 false) (sampled (inFlight line .dryer) fun x => { x with modeRequest := .valid 1 })
    t.engine.dryer.state = .preheat ∧ t.engine.dryer.held = .heat ∧ t.engine.dryer.permitTimer = none
      ∧ t.pins.heatRequest = true := by decide +kernel

/-- Example 4.9, computation 20001: settle reaches 4.0 s and row 9 holds. -/
theorem test_settle_timer_computation_20001 :
    let s := withDryer (inFlight line .dryer) .preheat
    let s := { s with engine := { s.engine with
      dryer := { s.engine.dryer with held := .heat, settleTimer := some 3998000 }
      zones := List.replicate 6 { ZoneRec.reset with inBand := true } } }
    (after (.settleTimerReached 0) s).engine.dryer.state = .ready
      ∧ (after (.settleTimerReached 0) s).engine.dryer.settleTimer = some 4000000 := by decide +kernel

/-- Example 5.10, before computation 1 (vmax 20000, f = 8; v = 8000, v_s = 9500, AIR 1985). -/
def exampleZone : State :=
  let s := sampled (inFlight (withDryer line .run) .zones) fun x =>
    { x with airTemp := [.invalid, .invalid, .valid 1985, .invalid, .invalid, .invalid] }
  { s with engine := { s.engine with
    speed := ⟨8000, 8000, 9500, 0, false⟩
    zones := [.reset, .reset, ⟨.firing, 200000, 12000000, 6000, 1980, 0, false, false, false⟩, .reset, .reset, .reset] } }

/-- Example 5.10, computation 1: S, I, fire and fan of zone 2. -/
theorem test_zone_stage_computation_1 :
    (after (.zoneStage 0) exampleZone).engine.zone 2 = ⟨.firing, 200060, 12001248, 6647, 1985, 0, false, false, false⟩
      ∧ (after (.zoneStage 0) exampleZone).engine.working.fan.getD 2 0 = 7607 := by decide +kernel

/-- Example 5.11, computation 5: the sensor hold of 6 ms has run out and the zone is FAULT. -/
theorem test_zone_sensor_hold_computation_5 :
    let s := sampled exampleZone fun x => { x with airTemp := List.replicate 6 .invalid }
    let s := { s with engine := { s.engine with
      zones := ⟨.holding, 205700, 12000560, 6432, 2050, 6000, false, false, false⟩ :: List.replicate 5 .reset } }
    (after (.zoneSensorHoldRunOut 0 0) s).engine.zone 0 = ⟨.fault, 205700, 0, 0, 2050, 8000, false, false, true⟩ := by
  decide +kernel

/-- Example 6.8, before a computation: RUN at v_s = 9500, last valid LEL 120. -/
def exampleLel (x : Sample) : State :=
  let s := sampled (atSpeed (inFlight (withDryer line .run) .exhaust) 9500) fun set => { set with lel := x }
  { s with engine := { s.engine with exhaust := ⟨120, 0, false, false⟩ } }

/-- Example 6.8, computations 1 and 4. -/
theorem test_exhaust_stage_computations :
    (after (.exhaustStage 0) (exampleLel (.valid 185))).engine.working.exhaust = 5900
      ∧ (after (.exhaustStage 0) (exampleLel (.valid 185))).trip.latch = false
      ∧ (after (.exhaustStage 0) (exampleLel (.valid 260))).engine.working.exhaust = 8150
      ∧ (after (.exhaustStage 0) (exampleLel (.valid 260))).trip.firstCause = some .lel := by decide +kernel

/-- Example 6.8, the 300th and the 301st computation of a silent LEL sensor: only the second sends a trip. -/
theorem test_lel_hold_at_its_limit :
    let hold (n : Nat) (s : State) := { s with engine := { s.engine with exhaust := ⟨120, n, false, false⟩ } }
    (after (.lelHoldRunOut 0) (hold 598000 (exampleLel .invalid))).trip.latch = false
      ∧ (after (.lelHoldRunOut 0) (hold 600000 (exampleLel .invalid))).trip.latch = true
      ∧ (after (.lelHoldRunOut 0) (hold 600000 (exampleLel .invalid))).engine.working.exhaust = 10000 := by
  decide +kernel

/-- The residue example of 7.2: v = 7777 mm/s and R = 500,000 move the web 16 mm and leave R = 54,000, over the wrap. -/
theorem test_track_stage_residue_and_wrap :
    let s := atSpeed (inFlight line .track) 7777
    let s := { s with engine := { s.engine with
      track := ⟨BitVec.ofNat 32 4294967290, 500000, true, 200, 0, []⟩ } }
    (after .trackStage s).engine.track.odometer = 10 ∧ (after .trackStage s).engine.track.residue = 54000 := by
  decide +kernel

/-- The tables of example 7.11. -/
def exampleTrack : Commissioning :=
  { plant with
    node := plant.node.set 1 10000
    geometry := [2, 1, 900, 1100, 200] ++ [0, 400, 0, 0, 0, 0] ++ [400, 800, 0, 0, 0, 0] ++ [1000, 0, 0, 0, 0, 0, 0, 0] }

/-- Example 7.11, computation 8: segment 41 retires with UNMEASURED and CHILL_HOT, 42 is measured, 43 takes zone 1's
dose. -/
theorem test_track_stage_computation_8 :
    let s := atSpeed (withDryer (inFlight (lineWith exampleTrack) .track) .run) 20000
    let s := sampled s fun x => { x with
      inkCoverage := .valid 2, airTemp := [.valid 2000, .invalid], exitWebTemp := .valid 1320, chillExit := .valid 380 }
    let seg (n mark dose : Nat) (rs : List WasteReason) : Segment :=
      ⟨BitVec.ofNat 16 n, BitVec.ofNat 32 mark, 2, dose, rs, none, none, false⟩
    let s := { s with engine := { s.engine with
      zones := [⟨.firing, 0, 0, 0, 2000, 0, true, false, false⟩, ⟨.holding, 0, 0, 0, 1900, 0, false, false, false⟩]
        ++ List.replicate 4 .reset
      track := ⟨6400, 0, true, 6600, 47,
        [⟨41, 5400, 2, 3800, [.unmeasured], none, none, true⟩, seg 42 5600 3800 [.splice], seg 43 5800 2900 [],
          seg 44 6000 2000 [], seg 45 6200 1000 [], seg 46 6400 0 []]⟩ } }
    let t := after .trackStage s
    t.engine.flight.map (·.retired) = some [⟨41, 5400, 2, 3800, [.unmeasured, .chillHot], none, some 380, true⟩]
      ∧ t.engine.track.records =
        [⟨42, 5600, 2, 3800, [.splice], some 1320, none, true⟩, seg 43 5800 3800 [], seg 44 6000 2900 [],
          seg 45 6200 2000 [], seg 46 6400 1000 [], seg 47 6600 0 []] := by decide +kernel

/-- Example 8.9, computation 1: roll 2's valve and I_c. -/
def exampleChill : State :=
  let s := atSpeed (withDryer (inFlight line .chill) .run) 9500
  let s := sampled s fun x => { x with chillExit := .valid 310 }
  { s with engine := { s.engine with
    chill := ⟨.tracking, 2500000, 0, false, false⟩
    track := ⟨2400, 0, true, 2900, 213, [⟨212, 0, 2, 0, [], some 1320, none, true⟩]⟩ } }

theorem test_chill_stage_computation_1 :
    (after .chillStage exampleChill).engine.working.valve.getD 2 0 = 6450
      ∧ (after .chillStage exampleChill).engine.chill.integ = 2501200 := by decide +kernel

/-- A silent chill sensor past the hold time of 6 ms. -/
theorem test_chill_sensor_hold_run_out :
    let s := sampled exampleChill fun x => { x with chillExit := .invalid }
    let s := { s with engine := { s.engine with chill := ⟨.tracking, 2501200, 6000, false, false⟩ } }
    (after .chillSensorHoldRunOut s).engine.chill = ⟨.tracking, 2501200, 8000, true, false⟩
      ∧ (after .chillSensorHoldRunOut s).engine.working.valve.getD 2 0 = 6150 := by decide +kernel

/-- Example 9.7, computation 9: six segments flushed; the last holds BREAK alone. -/
theorem test_gate_of_computation_9 :
    let w (rs : List WasteReason) : Segment := ⟨42, 0, 2, 0, rs, none, none, false⟩
    (Gate.next ⟨.waste, 1, some .unmeasured⟩
        (w [.splice, .break_] :: List.replicate 5 (w [.break_]))) = ⟨.waste, 6, some .break_⟩
      ∧ (Gate.next ⟨.waste, 6, some .break_⟩ []) = ⟨.waste, 0, some .break_⟩ := by decide

/-- The report cells (Table 12.4): RUN, OPERATE, latch clear, recipe complete; WASTE, 6 retired, BREAK. -/
theorem test_report_cells :
    (DryerStatus.pack ⟨.run, .operate, false, true⟩) = 3 + 8 * 2 + 64
      ∧ Gate.pack ⟨.waste, 6, some .break_⟩ = 2 + 4 * 6 + 32 * 9 := by decide

/-- A frame with this number and these cells. -/
def frameOf (number : BitVec 32) (cells : List Cell) (records : List Record) : EthFrame :=
  ⟨true, 0x89A2, frameBytes ⟨.cycle, number, cells, records, []⟩⟩

/-- The Supervisor of example 2.5: last number and last time as given. -/
def supervised (n : BitVec 32) (time : Nat) : State :=
  { line with localTime := time, sup := ⟨true, n, time, some 20000, some 50000, false, 0⟩ }

/-- Example 2.5, steps 2 (EARLY), 3 (GAP) and 4 (DUPLICATE): the flags latched, and whether captured. -/
theorem test_arrivals_of_example :
    let out (s : State) (n : BitVec 32) (time : Nat) :=
      let t := after (.frameArrival .ringIn time (frameOf n [] [])) s
      (t.svc.latched, t.engine.flight.isSome)
    out (supervised 501 102000) 502 102600 = (2, false)
      ∧ out (supervised 501 102000) 503 104000 = (2, true)
      ∧ out (supervised 503 104000) 503 105500 = (0, false)
      ∧ out (inFlight (supervised 504 106100) .zones) 505 107200 = (4, true) := by decide +kernel

/-- Example 2.5, steps 8 (LATE) to 10: the late count, then the warn and the loss expiry. -/
theorem test_silence_of_example :
    let s := after (.frameArrival .ringIn 111600 (frameOf 507 [] [])) (supervised 506 108100)
    let w := after (.warnExpiry 131600) s
    let l := after (.lossExpiry 161600) w
    s.sup.lateCount = 1 ∧ w.sup.linkWarn = true ∧ w.sup.lossTimer = some 30000 ∧ l.sup.anchored = false
      ∧ l.trip.firstCause = some .link := by decide +kernel

/-- Example 1.8, step 2: with the latch set FIRE[0] leaves as 0, GOOD, and FAN[0] as published. -/
theorem test_output_cells_of_example :
    let s := { tripped with port := { tripped.port with
      readSide := { OutputSet.reset with fire := [6647], fan := [7607] } } }
    (s.writeCell 20 ⟨1, 0⟩, s.writeCell 21 ⟨1, 0⟩, s.writeCell 19 ⟨1, 0⟩)
      = (⟨0, 1⟩, ⟨7607, 1⟩, ⟨1, 0⟩) := by decide +kernel

/-- Table 12.5: words 2, 3, 8, 9, 13 and 14 of STATUS, and the four words of a TRACK entry. -/
theorem test_status_and_track_words :
    (let v : View := { View.reset with
        node := .operate, dryer := .run, held := .produce, stand := .tracking
        zones := [.firing, .limited, .holding, .fault, .blocked, .off], chillTag := 4, doseTag := 9
        latch := true, purgeDone := true, firstCause := some .restart
        pendingSet := ⟨true, false, false, false, true⟩, clearPending := true, writing := true, result := .failed };
      [2, 3, 8, 9, 13, 14].map (v.statusWords.getD · 0)
        = [0x02030202, 0x00015432, 0x00040009, 0x00000A03, 0x800020FE, 0x00000201])
      ∧ Segment.words ⟨40, 500, 2, 1000, [.config, .start], some (-1), none, true⟩
        = [0xEA010028, 500, 1000, 0xFFFF0000] := by decide +kernel

/-- Example 1.8, steps 1 and 3: the sample set entries, and the TRIP_RESET of the lane answered DONE. -/
theorem test_frame_of_example :
    let cells := (((List.replicate 40 (⟨0, 1⟩ : Cell)).set 2 ⟨7980, 1⟩).set 3 ⟨2, 2⟩).set 10 ⟨1985, 0⟩
    let s := { tripped with trip := { tripped.trip with purgeTimer := none, purgeDone := true } }
    let t := after (.frameArrival .ringIn 0 (frameOf 9 cells [⟨1, 11, 0, 0, 12, 0, 0, 0, 0, 0, []⟩])) s
    t.engine.samples.webSpeed = .valid 7980 ∧ t.engine.samples.modeRequest = .valid 2
      ∧ t.engine.samples.air 0 = .invalid ∧ t.engine.samples.lel = .absent
      ∧ t.trip.latch = false ∧ t.pins.tripLine = false := by decide +kernel

/-- Example 10.9: BRK0 rises (RISING, 10 ms); its level is taken after 10 ms and trips, not before. -/
theorem test_break_line_of_example :
    let s := { line with trip := { line.trip with filters := List.replicate 4 ⟨some false, 50000⟩ } }
    let r := after (.breakLineLevelChange 0 true 1000) s
    (after (.breakLineLevelTaken 0 10999) r).trip.latch = false
      ∧ (after (.breakLineLevelTaken 0 11000) r).trip.firstCause = some (.breakLine 0)
      ∧ (after (.breakLineLevelTaken 0 11000) r).trip.purgeTimer = some 60000000 := by decide +kernel

/-- Example 10.9: the purge runs out 60 s after the trip that started it, and not a µs before. -/
theorem test_purge_of_example :
    (after (.purgeExpiry 59999999) tripped).trip.purgeDone = false
      ∧ (after (.purgeExpiry 60000000) tripped).trip.purgeDone = true
      ∧ (after (.tripReset ⟨0, 0, 0, 0, []⟩) tripped).lastReply = some ⟨.refused .purging, 0, []⟩ := by decide +kernel

/-- Example 11.8, the end of load with the marker invalid. -/
theorem test_load_end_of_example :
    let t := after .loadEnd State.reset
    t.svc.node = .config ∧ t.svc.latched = Flag.storeInvalid.mask ||| Flag.trip.mask
      ∧ t.trip.firstCause = some .restart ∧ t.pins.tripLine = true ∧ t.svc.resetCauses = 1 := by decide +kernel

/-- Example 11.8, steps 7 to 9: STORE, its completion, and CLEAR_LATCHED leaving TRIP and SPEED_INVALID. -/
theorem test_store_and_clear_of_example :
    let s := { tripped with svc := { tripped.svc with latched := 0x8808 } }
    let t := after (.storeCompletion true) (after (.store ⟨0, 0, 0, 0, []⟩) s)
    t.nv = ⟨plant, true⟩ ∧ t.svc.result = .ok
      ∧ (after (.clearLatched ⟨0, 0, 0, 0, [0x8800]⟩) t).lastReply = some ⟨.done, 0, [0x0808]⟩ := by decide +kernel

/-! ### Witnesses: states and operands that meet the hypotheses of each obligation -/

/-- A request with this table, index, count and payload. -/
def req (table : Byte) (index : Half) (count : Byte) (payload : List Word) : Request := ⟨table, 0, index, count, payload⟩

/-- The plant with a filter for each line, the level given as taken. -/
def filtered (taken : Option Bool) : State :=
  { line with trip := { line.trip with filters := List.replicate 4 ⟨taken, 0⟩ } }

/-- The plant with every table of its shadow pending and a counter clear. -/
def pendingAll : State :=
  { configured with svc := { configured.svc with pendingSet := ⟨true, true, true, true, true⟩, clearPending := true } }

/-- A segment of the track. -/
def segment : Segment := ⟨40, 0, 2, 1000, [.splice], none, none, false⟩

/-- The track with records in it. -/
def loaded (s : State) : State :=
  { s with engine := { s.engine with track := ⟨700, 0, true, 1000, 42, [segment, { segment with mark := 500, seq := 41 }]⟩ } }

theorem menu_accepted : menu.Accepted := by intro t; cases t <;> decide +kernel

theorem blank_accepted : Recipe.blank.Accepted := by intro t; cases t <;> decide +kernel

theorem plant_accepted : plant.Accepted := .inr (by decide +kernel)

/-- The plant's tables are accepted ones. -/
theorem line_tablesAccepted : line.TablesAccepted := by
  refine ⟨plant_accepted, menu_accepted, .inl rfl, ?_, ?_, ?_⟩
  · intro c h; cases h
  · intro h; cases h
  · intro t h; cases t <;> cases h

theorem line_tablesSized : line.TablesSized := by
  refine ⟨by decide +kernel, by decide +kernel, by decide +kernel, ?_⟩
  intro c h; cases h

theorem line_outputsInRange : line.OutputsInRange := by
  unfold State.OutputsInRange OutputSet.InRange Percent
  decide +kernel

/-- Time passes while LOADING and after it; a time already past too. -/
theorem witness_LocalTimePasses :
    State.reset.svc.node = .loading ∧ line.svc.node ≠ .loading ∧ (line.advanceTo 7).localTime = 7
      ∧ ((line.advanceTo 7).advanceTo 3).localTime = 7 := by decide +kernel

theorem witness_ResetsRestoreEveryBlock :
    (∃ (cut : Bool), Instr.localReset true = .localReset cut)
      ∧ ({ line with svc := { line.svc with lineResetDue := true } } : State).svc.lineResetDue = true
      ∧ (after (.localReset false) line).pins.resetN = false := by
  refine ⟨⟨true, rfl⟩, ?_, ?_⟩ <;> decide +kernel

/-- Load ends with the marker invalid and with it valid. -/
theorem witness_LoadEndStartsThePart :
    (State.reset.svc.node = .loading ∧ State.reset.pins.resetN = true ∧ State.reset.trip.latch = false
        ∧ State.reset.nv.marker = false)
      ∧ ({ State.reset with nv := ⟨plant, true⟩ } : State).nv.marker = true := by decide +kernel

theorem witness_FcsFailedFrameIsForwarded :
    line.pins.resetN = true ∧ line.port.inUp = true ∧ line.svc.node ≠ .loading
      ∧ (⟨false, 0x89A2, []⟩ : EthFrame).fcsOk = false := by decide +kernel

/-- LOADING; another type; a malformed frame; and each clause that makes one, at its boundary: a header of 8 bytes, cells
that run past the end by one byte, a head of 19 bytes, 17 words declared, one word declared and three bytes left. -/
theorem witness_FramesThatPassUnchanged :
    (let s := { State.reset with port := ⟨true, true, .reset, 0, 0⟩ };
      s.pins.resetN = true ∧ s.port.inUp = true ∧ s.svc.node = .loading)
      ∧ (⟨true, 0x0800, []⟩ : EthFrame).etherType ≠ 0x89A2 ∧ parseFrame [1, 1] = none
      ∧ parseFrame ([1, 1] ++ List.replicate 7 0) ≠ none
      ∧ (List.replicate 8 (0 : Byte)).length < 9 ∧ 256 < (0x01 : Byte).toNat * 256 + (0x01 : Byte).toNat
      ∧ 8 < (9 : Byte).toNat ∧ (3 : Byte) ≠ 1 ∧ (3 : Byte) ≠ 2
      ∧ parseFrame ([1, 2, 0, 0, 0, 0, 0, 1, 0, 0, 0, 0]) = none
      ∧ ([1, 1, 0, 0, 0, 0, 0, 1, 0, 0, 0] : List Byte).length < 9 + 3 * 1
      ∧ ((⟨.service, 0, [], [], []⟩ : LineFrame).wellFormed = true ∧ 0 < (1 : Byte).toNat
        ∧ (List.replicate 19 (0 : Byte)).length < 20
        ∧ 16 < ((List.replicate 15 (0 : Byte) ++ [17, 0, 0, 0, 0]).getD 15 0).toNat
        ∧ (List.replicate 15 (0 : Byte) ++ [1, 0, 0, 0, 0, 7, 7, 7]).length
          < 20 + 4 * ((List.replicate 15 (0 : Byte) ++ [1, 0, 0, 0, 0, 7, 7, 7]).getD 15 0).toNat) := by decide +kernel

/-- The largest frame: 256 cells and 8 records of 16 words; and the smallest. -/
theorem witness_ParseOfFrameBytes :
    (let f : LineFrame := ⟨.cycle, 0xFFFFFFFF, List.replicate 256 ⟨0x8000, 2⟩,
        List.replicate 8 ⟨1, 2, 3, 4, 0xFFFFFFFFFFFF, 6, 7, 8, 9, 10, List.replicate 16 11⟩, []⟩;
      f.cells.length ≤ 256 ∧ f.records.length ≤ 8 ∧ f.kind ≠ .service ∧ ∀ r ∈ f.records, r.payload.length ≤ 16)
      ∧ (⟨.service, 0, [], [], []⟩ : LineFrame).cells = []
      ∧ frameLayout ⟨.cycle, 0x1234, [⟨7980, 1⟩], [⟨1, 11, 0, 0, 12, 0, 0, 0, 0, 0, []⟩], [0xAA]⟩ = frameExample := by
  decide +kernel

theorem witness_FrameBytesOfParse : parseFrame frameExample ≠ none := by decide

/-- A frame that arrives on the running line, and one arrival for each of the three verdicts. -/
theorem witness_UncapturedArrivals :
    let s := supervised 501 102000
    (s.pins.resetN = true ∧ s.port.inUp = true ∧ s.svc.node ≠ .loading ∧ (frameOf 502 [] []).fcsOk = true
        ∧ (frameOf 502 [] []).etherType = 0x89A2
        ∧ parseFrame (frameOf 502 [] []).payload = some ⟨.cycle, 502, [], [], []⟩)
      ∧ (s.sup.anchored = true ∧ 102999 - s.sup.lastTime < s.svc.active.comm.earlyLimit)
      ∧ s.svc.active.comm.earlyLimit ≤ 103000 - s.sup.lastTime
      ∧ (inFlight s .speed).engine.flight.isSome = true
      ∧ (inFlight line .speed).sup.anchored = false := by decide +kernel

/-- Commissioning tables pending, BRK0 (RISING, TRIP) stable for its filter time on a new level, BRK3 (LOW, TRIP) at its
active level. -/
def activating : State :=
  { pendingAll with
    pins := { pendingAll.pins with breakLines := [true, false, false, false] }
    trip := { pendingAll.trip with
      filters := [⟨some false, 10000⟩, ⟨some false, 0⟩, ⟨some false, 0⟩, ⟨some false, 0⟩] } }

/-- A capture while unanchored and one in order, with everything pending and with nothing; a gap and a late frame just
past the limit of 3 ms, and one at it; at an activation a line that is due and one that is active (R154). -/
theorem witness_CaptureAppliesThePending :
    (line.engine.flight = none ∧ line.sup.anchored = false)
      ∧ (let s := supervised 501 102000;
        s.engine.flight = none ∧ s.svc.active.comm.earlyLimit ≤ 103000 - s.sup.lastTime
          ∧ (502 : BitVec 32) ≠ s.sup.lastNumber
          ∧ irregular s 503 103000 ∧ irregular s 502 105001 ∧ ¬ irregular s 502 105000 ∧ ¬ irregular line 9 0)
      ∧ (activating.svc.pendingSet.comm = true ∧ activating.svc.clearPending = true ∧ activating.pins.resetN = true
        ∧ activating.port.inUp = true ∧ activating.svc.node ≠ .loading ∧ activating.engine.flight = none
        ∧ activating.sup.anchored = false ∧ activating.trip.filters.length = 4)
      ∧ (lineDue plant activating 0 ∧ lineActs plant activating 0 ∧ lineActs plant activating 3
        ∧ ¬ lineDue plant activating 3 ∧ ¬ lineActs plant activating 1 ∧ plant.lineAction 3 = .trip) := by
  unfold irregular
  refine ⟨by decide +kernel, by decide +kernel, by decide +kernel, ?_, ?_, ?_, ?_, ?_, by decide +kernel⟩
  · unfold lineDue; decide +kernel
  · unfold lineActs lineDue lineQualifies; decide +kernel
  · unfold lineActs lineDue lineQualifies; decide +kernel
  · unfold lineDue; decide +kernel
  · unfold lineActs lineDue lineQualifies; decide +kernel

/-- R154 and R151 at that capture: both lines trip, BRK3 first, and CYCLE_IRREGULAR is not latched. -/
theorem test_capture_judges_the_lines :
    let t := after (.frameArrival .ringIn 0 (frameOf 9 [] [])) activating
    t.svc.node = .operate ∧ t.trip.latch = true ∧ t.trip.causes = 9 ∧ t.trip.firstCause = some (.breakLine 3)
      ∧ (t.trip.filter 0).taken = some true ∧ t.svc.latched = Flag.trip.mask
      ∧ t.trip.purgeTimer = some 60000000 := by decide +kernel

/-- An unmapped channel; a mapped one beyond the frame, GOOD, HELD and INVALID; the entry that names the latter. -/
theorem witness_SamplesAreFormedFromCells :
    inputEntry plant 1 2 ∧ plant.cellOf 2 = none ∧ plant.cellOf 1 = some 2
      ∧ channelSample plant [⟨0, 1⟩, ⟨0, 1⟩] 1 = .absent
      ∧ channelSample plant [⟨0, 1⟩, ⟨0, 1⟩, ⟨0xFFFF, 2⟩] 1 = .valid (-1)
      ∧ channelSample plant [⟨0, 1⟩, ⟨0, 1⟩, ⟨5, 3⟩] 1 = .invalid :=
  ⟨⟨0, by decide, by decide, by decide, fun _ h => absurd h (Nat.not_lt_zero _)⟩, by decide +kernel⟩

/-- A CYCLE frame with a mapped and an unmapped cell; a SERVICE frame with a record, which leaves answered. -/
theorem witness_OutputCellsLeaveInTheFrame :
    let r : Record := ⟨1, 9, 0, 0, 12, 0, 0, 0, 0, 0, []⟩
    let service : EthFrame := ⟨true, 0x89A2, frameBytes ⟨.service, 7, [], [r], [0xAA]⟩⟩
    (outputEntry plant 20 32 ∧ outputEntry plant 30 55 ∧ ∀ ch, ¬ outputEntry plant 2 ch)
      ∧ line.port.outUp = true
      ∧ parseFrame (frameOf 1 (List.replicate 21 ⟨0, 0⟩) []).payload
        = some ⟨.cycle, 1, List.replicate 21 ⟨0, 0⟩, [], []⟩
      ∧ parseFrame service.payload = some ⟨.service, 7, [], [r], [0xAA]⟩
      ∧ (let t := after (.frameArrival .ringIn 0 service) line
        t.sent = [⟨true, 0x89A2, frameBytes ⟨.service, 7, [], [{ r with status := 1 }], [0xAA]⟩⟩]
          ∧ t.svc.resetCauses = 0 ∧ t.engine.flight = none) := by
  refine ⟨⟨?_, ?_, ?_⟩, by decide +kernel⟩
  · unfold outputEntry; decide +kernel
  · unfold outputEntry; decide +kernel
  · rintro ch ⟨k, hk, hch, hcell, low, -⟩
    have : ∀ k < 64, item plant.cellMap k / 65536 = 2 → item plant.cellMap k % 65536 < 32 := by decide +kernel
    have := this k hk hcell
    omega

theorem witness_FireCellsAreBounded :
    line.TablesAccepted ∧ outputEntry plant 23 (32 + 2) ∧ tripped.trip.latch = true :=
  ⟨line_tablesAccepted, by unfold outputEntry; decide +kernel, by decide +kernel⟩

/-- A record addressed by station, one by serial number, one to another station; a kind served and one of no kind. -/
theorem witness_RecordsKeepTheirOtherBytes :
    ([(⟨1, 1, 1, 0, 12, 0, 1, 1, 0, 0, []⟩ : Record), ⟨3, 1, 1, 0, 12, 0, 1, 0, 0, 0, []⟩][1]?
        = some ⟨3, 1, 1, 0, 12, 0, 1, 0, 0, 0, []⟩ ∧ line.TablesSized)
      ∧ (addressedHere line ⟨1, 8, 0, 0, 12, 0, 0, 0, 0, 0, [0]⟩
        ∧ addressedHere line ⟨2, 14, 0, 0, Config.serialNumber, 0, 0, 0, 0, 0, []⟩
        ∧ ¬ addressedHere line ⟨1, 8, 0, 0, 13, 0, 0, 0, 0, 0, [0]⟩
        ∧ ¬ addressedHere (lineWith .defaults) ⟨1, 8, 0, 0, 0, 0, 0, 0, 0, 0, [0]⟩)
      ∧ commandOf ⟨1, 13, 0, 0, 12, 0, 0, 0, 0, 0, []⟩ 0 = some (.lineReset ⟨0, 0, 0, 0, []⟩)
      ∧ commandOf ⟨1, 14, 0, 0, 12, 0, 0, 0, 0, 0, []⟩ 0 = none := by
  refine ⟨⟨by decide, line_tablesSized⟩, ⟨?_, ?_, ?_, ?_⟩, by decide, by decide⟩
  · refine ⟨rfl, .inl ⟨rfl, ?_, ?_⟩⟩ <;> decide +kernel
  · exact ⟨rfl, .inr ⟨rfl, rfl⟩⟩
  · rintro ⟨-, ⟨-, h, -⟩ | ⟨h, -⟩⟩ <;> revert h <;> decide +kernel
  · rintro ⟨-, ⟨-, -, h⟩ | ⟨h, -⟩⟩ <;> revert h <;> decide +kernel

/-- An accepted LINE_RESET ends the lane: the CLEAR_CAUSES after it is left as it arrived (R177). -/
theorem test_line_reset_ends_the_lane :
    let r (kind : Byte) : Record := ⟨1, kind, 0, 0, 12, 0, 0, 0, 0, 0, []⟩
    (serveLane [r 13, r 9] configured).2 = [{ r 13 with status := 1 }, r 9]
      ∧ (serveLane [r 13, r 9] configured).1.svc.resetCauses = 1
      ∧ (serveLane [r 13, r 9] tripped).2 = [{ r 13 with status := 3, reason := 5 }, { r 9 with status := 1 }] := by
  decide +kernel

/-- Each timer as it expires, and with a µs left. -/
theorem witness_SilenceWarnsThenTrips :
    let s := supervised 507 111600
    s.svc.node ≠ .loading ∧ s.sup.warnTimer = some 20000 ∧ 20000 ≤ 131600 - s.localTime
      ∧ s.sup.lossTimer = some 50000 ∧ 50000 ≤ 161600 - s.localTime ∧ tripped.trip.latch = true
      ∧ 131599 - s.localTime < 20000 ∧ 161599 - s.localTime < 50000
      ∧ (after (.warnExpiry 131599) s).sup.warnTimer = some 20000 := by decide +kernel

/-- The curve of example 3.8, at its ends and between two neighbours; and a curve of one breakpoint. -/
theorem witness_CurveFollowsItsBreakpoints :
    let pts : List Breakpoint := [(0, 2500), (4000, 4000), (10000, 7000), (14000, 6500)]
    pts.Pairwise (fun a b => a.1 < b.1) ∧ pts.head? = some (0, 2500) ∧ pts.getLast? = some (14000, 6500)
      ∧ pts[2]? = some (10000, 7000) ∧ pts[3]? = some (14000, 6500)
      ∧ ([(8000, 4200)] : List Breakpoint).Pairwise (fun a b => a.1 < b.1) := by decide +kernel

/-- A VALID speed; an INVALID one within the hold (6000 µs) and past it. -/
theorem witness_SpeedStageFormsTheSpeed :
    (inFlight line .speed).engine.flight = some (flying .speed)
      ∧ min (4000 + line.svc.active.comm.period) 8589934591 ≤ line.svc.active.comm.speedHold
      ∧ line.svc.active.comm.speedHold < min (6000 + line.svc.active.comm.period) 8589934591
      ∧ line.engine.samples.speedRef.isValid = false := by decide +kernel

/-- A break cell asserted; a mode request out of range; a step with no trip seen that latches PERMIT_LOST. -/
theorem witness_DryerStepReadsOnce :
    (inFlight line .dryer).engine.flight = some (flying .dryer) ∧ (flying .dryer).stage = .dryer
      ∧ (after (.dryerStep 0 true) (sampled (inFlight line .dryer) fun x => { x with breakCell := .valid 1 })).trip.breakCell
        = true
      ∧ (after (.dryerStep 0 true) (sampled (inFlight line .dryer) fun x => { x with modeRequest := .valid 3 })).svc.latched
        = Flag.modeInvalid.mask
      ∧ (after (.dryerStep 0 false) (sampled (inFlight (withDryer line .ready) .dryer) fun x =>
          { x with modeRequest := .valid 1 })).svc.latched = Flag.permitLost.mask := by decide +kernel

/-- A CONFIG node; a trip seen; and, with no trip seen, a starting state and a request for each row; zones that are cool
(below 50.0 °C) and zones that are not, for row 16. -/
theorem witness_DryerStepTakesItsRow :
    configured.svc.node = .config ∧ line.svc.node ≠ .config ∧ tripSeen tripped ∧ ¬ tripSeen line
      ∧ (withDryer line .purge).engine.dryer.state = .purge
      ∧ requestNow line = .off
      ∧ (let s := (sampled (withDryer line .run) fun x => { x with modeRequest := .valid 2 });
        requestNow s = .produce ∧ s.engine.dryer.state = .run ∧ ¬ tripSeen s)
      ∧ ({ line with svc := { line.svc with active := ⟨plant, .blank⟩ } } : State).svc.active.recipeComplete = false
      ∧ (sampled line fun x => { x with modeRequest := .valid 1 }).engine.dryer.retryBlock = false
      ∧ (let cool (a : Int) := after (.dryerStep 0 true)
            (sampled (inFlight (withDryer line .cooldown) .dryer) fun x => { x with airTemp := List.replicate 6 (.valid a) });
        (cool 499).engine.dryer.state = .cold ∧ (cool 500).engine.dryer.state = .cooldown) := by
  unfold tripSeen; decide +kernel

/-- Each timer one period before its setting, in the state and with the readings its row asks for. -/
theorem witness_DryerTimersReached :
    (let s := (sampled (atSpeed (inFlight line .dryer) 1500) fun x => { x with modeRequest := .valid 2 });
      s.engine.flight = some (flying .dryer) ∧ s.svc.node ≠ .config ∧ ¬ tripSeen s ∧ requestNow s = .produce
        ∧ s.svc.active.recipeComplete = true ∧ s.svc.active.comm.runThreshold ≤ s.engine.speed.v)
      ∧ plant.permitTimeout ≤ timerNow (some 59998000) plant.period
      ∧ plant.settle ≤ timerNow (some 3998000) plant.period
      ∧ plant.runConfirm ≤ timerNow (some 998000) plant.period
      ∧ plant.holdDelay ≤ timerNow (some 4998000) plant.period
      ∧ plant.holdLimit ≤ timerNow (some 59998000) plant.period ∧ plant.holdLimit ≠ 0
      ∧ (atSpeed line 299).engine.speed.v < plant.creep ∧ (atSpeed line 1499).engine.speed.v < plant.runThreshold
      ∧ plant.activeZones = [0, 1, 2] := by
  unfold tripSeen; decide +kernel

/-- An inactive zone; a dryer at rest; a heated one without the permit; and a zone with a VALID air, and without one. -/
theorem witness_ZonesAtRestHaveNoFire :
    (inFlight line .zones).engine.flight = some (flying .zones) ∧ plant.zoneActive 3 = false
      ∧ plant.zoneActive 2 = true ∧ line.engine.dryer.state.heated = false
      ∧ (withDryer line .ready).engine.dryer.state.heated = true
      ∧ ({ flying .zones with permit := false } : Computation).permit = false
      ∧ plant.fanMin 2 ≤ 10000 ∧ exampleZone.engine.samples.air 2 = .valid 1985
      ∧ exampleZone.engine.samples.air 1 = .invalid := by decide +kernel

theorem witness_ZoneLoopFormsItsFire :
    exampleZone.engine.flight = some (flying .zones) ∧ plant.zoneActive 2 = true
      ∧ exampleZone.engine.dryer.state.heated = true ∧ (flying .zones).permit = true
      ∧ exampleZone.engine.samples.air 2 = .valid 1985 := by decide +kernel

/-- A silent zone that was controlling, within the hold and past it; and one that was not. -/
theorem witness_ZoneWithoutASensor :
    let s := sampled exampleZone fun x => { x with airTemp := [] }
    s.engine.samples.air 2 = .absent ∧ (s.engine.zone 2).state.controlling = true
      ∧ (s.engine.zone 1).state.controlling = false
      ∧ min (4000 + plant.period) 8589934591 ≤ plant.sensorHold
      ∧ plant.sensorHold < min (6000 + plant.period) 8589934591 := by decide +kernel

/-- A zone above max air (210.0 °C), and above the trip level (215.0 °C); at the trip level stage 3 sends no trip. -/
theorem witness_OvertempIsFoundAndTrips :
    let s (a : Int) := sampled exampleZone fun x => { x with airTemp := List.replicate 6 (.valid a) }
    (s 2151).engine.samples.air 2 = .valid 2151 ∧ (plant.maxAir 2 : Int) < 2101
      ∧ (plant.maxAir 2 : Int) + plant.tripMargin 2 < 2151
      ∧ (after (.zoneStage 0) (s 2150)).trip.latch = false
      ∧ (after (.zoneStage 0) (s 2150)).svc.latched = Flag.overtemp.mask
      ∧ (after (.zoneStage 0) (s 2151)).trip.firstCause = some .overtemp := by decide +kernel

/-- A VALID level at the trip level; a silent sensor, heated and not, within the hold and past it. -/
theorem witness_ExhaustStageSetsTheDamper :
    (exampleLel (.valid 250)).engine.flight = some (flying .exhaust)
      ∧ (exampleLel (.valid 250)).engine.samples.lel = .valid 250 ∧ (plant.lelTrip : Int) ≤ 250
      ∧ (exampleLel .absent).engine.samples.lel = .absent ∧ (exampleLel .absent).engine.dryer.state.heated = true
      ∧ min (598000 + plant.period) 8589934591 ≤ plant.lelHold
      ∧ plant.lelHold < min (600000 + plant.period) 8589934591 ∧ plant.exhaustMin ≤ 10000 := by decide +kernel

/-- R95 and R148: at a latch already set, its purge done, an LEL trip starts the purge again and keeps the first cause. -/
theorem test_lel_trip_at_a_set_latch :
    let s := { exampleLel (.valid 250) with trip := { tripped.trip with purgeTimer := none, purgeDone := true } }
    let t := (after (.exhaustStage 0) s).trip
    t.purgeTimer = some 60000000 ∧ t.purgeDone = false ∧ t.firstCause = some (.breakLine 0) ∧ t.causes = 0x21 := by
  decide +kernel

/-- R106: the class of a segment for INK_COVERAGE −1, 0, 3, 4 and INVALID. -/
theorem test_class_of_coverage :
    [Sample.valid (-1), .valid 0, .valid 3, .valid 4, .invalid].map
      (fun x => classNow (sampled line fun set => { set with inkCoverage := x })) = [0, 0, 3, 3, 0] := by decide +kernel

theorem witness_TrackStageMovesTheOdometer :
    (inFlight line .track).engine.flight = some (flying .track) ∧ (flying .track).stage = .track := by decide +kernel

/-- A flush by the latch, by the mark alone, by CONFIG and by an activation, with records in the track. -/
theorem witness_FlushRetiresTheWholeTrack :
    (loaded (inFlight tripped .track)).engine.track.records.length = 2 ∧ tripped.trip.latch = true
      ∧ (after (.tripReset (req 0 0 0 []))
          { tripped with trip := { tripped.trip with purgeTimer := none, purgeDone := true } }).trip.flushMark = true
      ∧ ({ flying .track with node := .config } : Computation).node = .config
      ∧ ({ flying .track with activated := true } : Computation).activated = true := by decide +kernel

/-- A web that stands and one that moves 20 mm, over an empty, unanchored track; and an anchored track that admits. -/
theorem witness_FirstAdmissionAnchorsTheTrack :
    let s := inFlight line .track
    (s.engine.flight = some (flying .track) ∧ s.trip.latch = false ∧ s.trip.flushMark = false
      ∧ (flying .track).node ≠ .config ∧ (flying .track).activated = false ∧ s.engine.track.anchored = false
      ∧ s.engine.track.records = [] ∧ 2 ≤ s.svc.active.comm.segmentLength
      ∧ (0 + 0 * s.svc.active.comm.period) / 1000000 = 0 ∧ 1 ≤ (0 + 500 * s.svc.active.comm.period) / 1000000)
      ∧ (let t := after .trackStage (atSpeed (loaded s) 150000)
        (loaded s).engine.track.anchored = true ∧ t.engine.track.records.map (·.mark) = [0, 500, 1000]
          ∧ t.engine.track.records.map (·.seq) = [40, 41, 42] ∧ t.engine.track.nextMark = 1500
          ∧ t.engine.counters.admitted = 1) := by decide +kernel

/-- A segment that crosses the chill exit in this computation, and one short of it; and one in a zone that is OFF. -/
theorem witness_SegmentsKeepWhatTheyHold :
    segment.dose ≤ 4000000000
      ∧ ((segment.exposed line 3650).crossed line 3650 20 false).2 = true
      ∧ ((segment.exposed line 3649).crossed line 3649 20 false).2 = false
      ∧ (segment.exposed line 650).reasons = [.splice, .zone]
      ∧ ((segment.exposed line 1450).crossed line 1450 20 false).1 = { segment with
          reasons := [.splice, .underdose], judged := true } := by decide +kernel

/-- CONFIG; PURGE; below creep over a cold and a heated dryer; at creep. -/
theorem witness_ChillStandSelectsItsState :
    let stand (s : State) (node : NodeState) :=
      (after .chillStage { s with engine := { s.engine with flight := some { flying .chill with node := node } } }).engine.chill.stand
    stand line .config = .idle ∧ stand (withDryer line .purge) .operate = .still
      ∧ stand (atSpeed line 299) .operate = .idle ∧ stand (atSpeed (withDryer line .run) 299) .operate = .still
      ∧ stand (atSpeed line 300) .operate = .tracking := by decide +kernel

/-- A VALID reading; a silent sensor past the hold time of 6 ms; a channel that is not mapped; a supply at its limit. -/
theorem witness_ChillTrimFollowsTheReading :
    exampleChill.engine.flight = some (flying .chill) ∧ (flying .chill).node ≠ .config
      ∧ exampleChill.engine.dryer.state ≠ .purge ∧ plant.creep ≤ exampleChill.engine.speed.v
      ∧ (plant.cellOf 16).isSome = true ∧ exampleChill.engine.samples.chillExit = .valid 310
      ∧ (inFlight line .chill).engine.samples.chillExit = .absent
      ∧ plant.sensorHold < min (6000 + plant.period) 8589934591 ∧ plant.valveMin 2 ≤ 10000
      ∧ ({ plant with cellMap := plant.cellMap.set 6 0 } : Commissioning).cellOf 16 = none
      ∧ (let supply (a : Int) := after .chillStage (sampled exampleChill fun x => { x with chillSupply := .valid a });
        (supply 250).engine.chill.supply = false ∧ (supply 251).svc.latched = Flag.chillFault.mask) := by decide +kernel

theorem witness_PublicationReplacesTheOutputSet :
    (inFlight line .report).engine.flight = some (flying .report) ∧ (flying .report).stage = .report := by decide +kernel

/-- No retirement; GOOD ones alone; a WASTE one before a GOOD one. -/
theorem witness_GateReportsTheRetirements :
    (flying .report).retired = [] ∧ ∀ g ∈ [{ segment with reasons := [] }], g.reasons = [] := by decide

theorem witness_TripSetsTheLatch : line.trip.latch = false := by decide +kernel

theorem witness_TripRetriggersThePurge : tripped.trip.latch = true ∧ line.trip.latch = false := by decide +kernel

/-- A purge timer that runs out, one with a µs left, and one that is stopped. -/
theorem witness_PurgeExpiryEndsThePurge :
    tripped.svc.node ≠ .loading ∧ tripped.trip.purgeTimer = some 60000000
      ∧ 60000000 ≤ 60000000 - tripped.localTime ∧ 59999999 - tripped.localTime < 60000000
      ∧ line.trip.purgeTimer = none := by decide +kernel

/-- A change while LOADING, one under a filter and one without; a take of the taken level, a qualifying one of each
action, and one that does not qualify, each just stable; one a µs short of it, and one while LOADING. -/
theorem witness_BreakLinesAreFilteredAndJudged :
    line.pins.breakLines.length = 4 ∧ line.trip.filters.length = 4 ∧ line.pins.breakLines.getD 0 false ≠ true
      ∧ plant.filterTime 0 ≠ 0 ∧ plant.lineMode 0 = .rising ∧ plant.lineAction 0 = .trip
      ∧ plant.filterTime 1 = 0 ∧ plant.lineMode 1 = .high ∧ plant.lineAction 1 = .notice ∧ plant.lineMode 3 = .low
      ∧ (after (.breakLineLevelChange 1 true 5) line).svc.latched = Flag.notice.mask
      ∧ ((after (.breakLineLevelChange 1 true 5) line).trip.filter 1) = ⟨some true, 0⟩
      ∧ ((filtered (some true)).trip.filter 3).taken = some true
      ∧ plant.filterTime 3 ≤ ((filtered (some true)).trip.filter 3).stable + (5000 - line.localTime)
      ∧ ((filtered (some true)).trip.filter 3).stable + (4999 - line.localTime) < plant.filterTime 3
      ∧ State.reset.svc.node = .loading
      ∧ (filtered (some true)).pins.breakLines.getD 3 false = false := by decide +kernel

/-- One entry of NODE, and the last entries of TRACK. -/
theorem witness_ReadReturnsTheEntries :
    (let r := req 1 0 1 (List.replicate 8 0);
      TableId.ofCode r.table.toNat = some .node ∧ 1 ≤ r.count.toNat
        ∧ r.index.toNat + r.count.toNat ≤ TableId.node.entries
        ∧ r.payload.length = r.count.toNat * TableId.node.entryWords ∧ r.option = 0)
      ∧ (let r := req 31 124 4 (List.replicate 16 0);
        TableId.ofCode r.table.toNat = some .track ∧ r.index.toNat + r.count.toNat ≤ TableId.track.entries
          ∧ r.payload.length = r.count.toNat * TableId.track.entryWords) := by decide +kernel

/-- A record of no kind addressed here; an unknown table and a known one of each class; a payload one word short. -/
theorem witness_CommonChecksRefuse :
    (line.svc.node ≠ .loading ∧ TableId.ofCode 0 = none ∧ TableId.ofCode 30 = some .status
        ∧ TableId.ofCode 20 = some .report ∧ TableId.ofCode 10 = some .zoneCurves ∧ TableId.ofCode 1 = some .node)
      ∧ (addressedHere line ⟨2, 14, 0, 0, Config.serialNumber, 0, 0, 0, 0, 0, []⟩ ∧ 13 < (14 : Byte).toNat)
      ∧ (let r := req 1 0 1 (List.replicate 7 0);
        1 ≤ r.count.toNat ∧ r.index.toNat + r.count.toNat ≤ TableId.node.entries
          ∧ r.payload.length ≠ r.count.toNat * TableId.node.entryWords) := by
  refine ⟨by decide +kernel, ⟨⟨rfl, .inr ⟨rfl, rfl⟩⟩, by decide⟩, by decide +kernel⟩

/-- A WRITE in CONFIG, of a recipe table, of one that is pending, and of REPORT; a DISCARD of each. -/
theorem witness_WriteAndDiscardChangeOneShadow :
    configured.svc.node = .config ∧ configured.svc.pendingSet.comm = false
      ∧ (TableId.ofCode 3 = some .geometry ∧ TableId.geometry.cls = .commissioning)
      ∧ (TableId.ofCode 13 = some .doseWindows ∧ TableId.doseWindows.cls = .recipe)
      ∧ line.svc.pendingSet.has .doseWindows = false ∧ pendingAll.svc.pendingSet.has .doseWindows = true
      ∧ (let r := req 20 0 1 [0xFFFF];
        r.payload.length = r.count.toNat * TableId.report.entryWords) ∧ line.svc.node ≠ .config
      ∧ (let r := req 3 24 1 [7];
        TableId.ofCode r.table.toNat = some .geometry ∧ 1 ≤ r.count.toNat
          ∧ r.index.toNat + r.count.toNat ≤ TableId.geometry.entries
          ∧ r.payload.length = r.count.toNat * TableId.geometry.entryWords)
      ∧ configured.svc.active.sized = true ∧ configured.svc.shadow.sized = true
      ∧ (pendingAll.svc.node = .config ∧ pendingAll.svc.pendingSet.comm = true) := by decide +kernel

/-- A COMMIT while pending, of a shadow that fails and of one that passes. -/
theorem witness_CommitJoinsThePendingSet :
    TableId.ofCode 11 = some .exhaustCurve ∧ pendingAll.svc.pendingSet.has .exhaustCurve = true
      ∧ line.svc.shadow.recipe.validate .exhaustCurve = none
      ∧ ({ menu with exhaustCurve := menu.exhaustCurve.set 1 9 } : Recipe).validate .exhaustCurve
        = some ⟨2817, 64⟩ := by decide +kernel

/-- Recipes whose failure is reported, at the bounds of their ranges: a tag of 65536, a count of 9, a class's dose window
upside down, and a non-zero word given as 0. -/
theorem witness_DoseWindowChecks :
    ({ menu with exhaustCurve := menu.exhaustCurve.set 0 65536 } : Recipe).validate .exhaustCurve = some ⟨2817, 64⟩
      ∧ ({ menu with chillCurves := menu.chillCurves.set 12 9 } : Recipe).validate .chillCurves = some ⟨3073, 7⟩
      ∧ ({ menu with doseWindows := menu.doseWindows.set 21 1499 } : Recipe).validate .doseWindows = some ⟨3331, 3⟩
      ∧ (({ menu with doseWindows := menu.doseWindows.set 4 1 } : Recipe).validate .doseWindows).map (·.code)
        = some 3329 := by decide +kernel

/-- Failures of GEOMETRY, CELL_MAP, ZONE_TUNING and
CHILL_TUNING with their entry index. -/
theorem test_commissioning_failures :
    ({ plant with geometry := plant.geometry.set 24 240001 } : Commissioning).validate = some ⟨769, 7⟩
      ∧ ({ plant with geometry := plant.geometry.set 6 399 } : Commissioning).validate = some ⟨776, 1⟩
      ∧ ({ plant with cellMap := plant.cellMap.set 63 (mapped 256 2) } : Commissioning).validate = some ⟨513, 63⟩
      ∧ ({ plant with cellMap := plant.cellMap.set 63 (mapped 2 2) } : Commissioning).validate = some ⟨525, 63⟩
      ∧ ({ plant with cellMap := plant.cellMap.set 63 (mapped 255 1) } : Commissioning).validate = some ⟨526, 63⟩
      ∧ ({ plant with cellMap := plant.cellMap.set 0 0 } : Commissioning).validate = some ⟨527, 64⟩
      ∧ ({ plant with zoneTuning := plant.zoneTuning.set 29 0 } : Commissioning).validate = some ⟨1537, 5⟩
      ∧ ({ plant with chillTuning := plant.chillTuning.set 3 10001 } : Commissioning).validate = some ⟨1793, 64⟩
      ∧ ({ plant with chillTuning := plant.chillTuning.set 19 10001 } : Commissioning).validate = some ⟨1793, 7⟩ := by
  decide +kernel

theorem witness_AcceptedCommissioningIsOrdered :
    plant.validate = none
      ∧ (let c := { plant with limits := plant.limits.set 18 401 };
        c.node = plant.node ∧ (∀ i < 73, i ≠ 18 → item c.limits i = item plant.limits i) ∧ 400 < c.chillSupplyMax) :=
  ⟨test_plant_is_accepted, by decide +kernel⟩

/-- Each branch of ENTER_CONFIG and LEAVE_CONFIG. -/
theorem witness_ConfigIsEnteredAndLeft :
    (line.svc.node = .operate ∧ line.svc.writing = none ∧ line.engine.dryer.state = .cold)
      ∧ (pendingAll.svc.node = .config ∧ pendingAll.svc.pendingSet.comm = true)
      ∧ (withDryer line .hold).engine.dryer.state ≠ .cold ∧ line.beginStore.svc.writing.isSome = true
      ∧ configured.svc.pendingSet.comm = false ∧ configured.svc.shadow.comm.validate = none
      ∧ ({ plant with inputLines := plant.inputLines.set 0 6 } : Commissioning).validate = some ⟨5 * 256 + 1, 0⟩ := by
  decide +kernel

theorem witness_StoreWritesTheActiveTables :
    line.svc.defaultsActive = false ∧ line.svc.writing = none ∧ line.beginStore.svc.writing = some plant
      ∧ (after .loadEnd State.reset).svc.defaultsActive = true := by decide +kernel

theorem witness_ClearsDoWhatTheySay : line.svc.node ≠ .loading ∧ (req 0 0 0 [0xFFFFFFFF]).payload = [0xFFFFFFFF] := by
  decide +kernel

/-- Table 11.4: STORE_INVALID is present with the marker invalid, not while a STORE is in flight; ZONE_FAULT for an active
zone and not for another; NOTICE for a level-mode line at its active level. -/
theorem test_present_conditions :
    let faulty (z : Nat) : State :=
      { line with engine := { line.engine with zones := line.engine.zones.set z { ZoneRec.reset with faulted := true } } }
    presentNow line .storeInvalid ∧ ¬ presentNow line.beginStore .storeInvalid
      ∧ presentNow (faulty 2) .zoneFault ∧ ¬ presentNow (faulty 3) .zoneFault
      ∧ presentNow (filtered (some true)) .notice ∧ ¬ presentNow (filtered (some false)) .notice := by
  refine ⟨?_, ?_, ?_, ?_, ?_, ?_⟩ <;> (unfold presentNow; decide +kernel)

/-- Each judgement of Table 10.5; TEST_TRIP in RUN and out of it. -/
theorem witness_TripRequestsAreJudged :
    line.trip.latch = false ∧ (tripped.trip.latch = true ∧ tripped.trip.purgeDone = false)
      ∧ (after (.purgeExpiry 60000000) tripped).trip.purgeDone = true
      ∧ (plant.lineMode 3 = .low ∧ ((filtered (some false)).trip.filter 3).taken = some false)
      ∧ (withDryer line .run).engine.dryer.state = .run ∧ line.engine.dryer.state ≠ .run := by decide +kernel

theorem witness_LineResetIsJudgedInOrder :
    line.beginStore.svc.writing.isSome = true ∧ (line.svc.writing = none ∧ configured.svc.node = .config)
      ∧ (line.engine.dryer.state = .cold ∧ line.trip.latch = false)
      ∧ (tripped.svc.node = .operate ∧ tripped.trip.latch = true) := by decide +kernel

/-- A track with two records in it stands in order. -/
theorem loaded_trackSpaced : (loaded line).TrackSpaced := by
  unfold State.TrackSpaced
  intro m k length
  refine ⟨fun h => (by cases h), by decide +kernel, fun c h => (by cases h), fun _ => ⟨?_, ?_, fun _ => by decide +kernel, ?_⟩⟩
  · intro i g h hg hh
    rcases i with _ | _ | i
    · cases hg; cases hh; exact ⟨by decide +kernel, by decide +kernel⟩
    · cases hh
    · cases hh
  · intro g h
    cases h; exact ⟨by decide +kernel, by decide +kernel⟩
  · show ∀ g ∈ [segment, { segment with mark := 500, seq := 41 }], _
    decide +kernel

/-- The running line meets every invariant (reset meets them too: ResetMeetsEveryInvariant). -/
theorem witness_invariants :
    line.LinesFormed ∧ line.CountersBalanced ∧ line.trip.Consistent ∧ line.TrackInRange ∧ line.TablesAccepted
      ∧ line.TablesSized ∧ line.OutputsInRange ∧ line.LoadingReset ∧ line.ConfigCold ∧ (loaded line).TrackSpaced := by
  refine ⟨?_, ?_, ?_, ?_, line_tablesAccepted, line_tablesSized, line_outputsInRange, ?_, ?_, loaded_trackSpaced⟩
  · unfold State.LinesFormed; decide +kernel
  · unfold State.CountersBalanced TrackCounters.Balanced; decide +kernel
  · refine ⟨fun _ => by decide +kernel, fun h => ?_, fun h => ?_⟩ <;> cases h
  · refine ⟨by decide +kernel, by decide +kernel, fun g h => by cases h⟩
  · intro h; cases h
  · intro h; cases h

/-- And with STORE_INVALID latched, as the invalid marker of its store makes it present, so are R174's. -/
theorem witness_PresentConditionsStayLatched :
    (line.latchFlag .storeInvalid).LoadingReset ∧ (line.latchFlag .storeInvalid).InactiveZonesClear
      ∧ (line.latchFlag .storeInvalid).PresentLatched := by
  refine ⟨?_, fun z hz _ => ?_, fun _ f => ?_⟩
  · intro h; cases h
  · refine .inl ?_
    interval_cases z <;> decide +kernel
  · cases f <;> decide +kernel

end Sys2Proof.Tests
end

section
/-!
SUPPORT. Proofs about the line port, the CELL_MAP and the capture: the links, the frames that pass unchanged, the sample set,
the output cells, the bytes of a line frame, what the service lane leaves alone, the break lines, and a captured arrival.
-/
namespace Sys2Proof.Machine

/-! ### What changes only the named blocks -/

theorem Block.Same.refl (s : State) (b : Block) : b.Same s s := by cases b <;> rfl

theorem Block.Same.trans {s t u : State} {b : Block} (hst : b.Same s t) (htu : b.Same t u) : b.Same s u := by
  cases b <;> exact Eq.trans htu hst

theorem ChangesOnly.refl (s : State) (changed : List Block) : ChangesOnly s s changed := fun b _ => .refl s b

theorem ChangesOnly.trans {s t u : State} {changed : List Block} (hst : ChangesOnly s t changed)
    (htu : ChangesOnly t u changed) : ChangesOnly s u changed := fun b hb => (hst b hb).trans (htu b hb)

theorem ChangesOnly.mono {s t : State} {few more : List Block} (h : ChangesOnly s t few) (sub : few ⊆ more) :
    ChangesOnly s t more := fun b hb => h b fun hf => hb (sub hf)

theorem forward_changesOnly (s : State) (f : EthFrame) : ChangesOnly s (s.forward f) [.sent] := by
  intro b hb; cases b <;> simp [Block.Same] at hb ⊢

theorem countFcs_changesOnly (s : State) : ChangesOnly s s.countFcs [.port] := by
  intro b hb; cases b <;> simp [Block.Same] at hb ⊢

theorem countMalformed_changesOnly (s : State) : ChangesOnly s s.countMalformed [.port] := by
  intro b hb; cases b <;> simp [Block.Same] at hb ⊢

/-! ### Links (R1) -/

theorem exec_portLinkUp (port : Port) (s : State) : exec (.portLinkUp port) s = .next (s.setLink port true) := rfl

theorem exec_portLinkDown (port : Port) (cut : Bool) (s : State) :
    exec (.portLinkDown port cut) s =
      .next ((if cut = true ∧ s.port.link port = true then s.cutFrame port else s).setLink port false) := rfl

theorem setLink_changesOnly (s : State) (port : Port) (up : Bool) :
    ChangesOnly s (s.setLink port up) [.port, .pins] := by
  intro b hb; cases b <;> simp [Block.Same] at hb ⊢

/-- On IN a frame cut short is counted, but for LOADING (R5). -/
theorem cutFrame_in_eq (s : State) (cut : Bool) :
    (if cut = true ∧ s.port.link .ringIn = true then s.cutFrame .ringIn else s) =
      if cut = true ∧ s.port.inUp = true ∧ s.svc.node ≠ .loading then s.countFcs else s := by
  by_cases hload : s.svc.node = .loading <;> simp [LinePort.link, State.cutFrame, hload]

/-- A frame cut short on IN has no other effect. -/
theorem cutFrame_in (s : State) (cut : Bool) :
    ChangesOnly s (if cut = true ∧ s.port.link .ringIn = true then s.cutFrame .ringIn else s) [.port]
      ∧ (if cut = true ∧ s.port.link .ringIn = true then s.cutFrame .ringIn else s).port =
        { s.port with
          fcsFailed :=
            if cut = true ∧ s.port.inUp = true ∧ s.svc.node ≠ .loading then s.port.fcsFailed + 1
            else s.port.fcsFailed } := by
  rw [cutFrame_in_eq]
  split
  · exact ⟨countFcs_changesOnly s, rfl⟩
  · exact ⟨.refl s _, rfl⟩

/-- On OUT a frame cut short is lost, and it has no other effect. -/
theorem cutFrame_out (s : State) (cut : Bool) :
    ChangesOnly s (if cut = true ∧ s.port.link .ringOut = true then s.cutFrame .ringOut else s) [.sent]
      ∧ (if cut = true ∧ s.port.link .ringOut = true then s.cutFrame .ringOut else s).sent =
        if cut = true ∧ s.port.outUp = true then s.sent.dropLast else s.sent := by
  by_cases hcut : cut = true ∧ s.port.outUp = true
  · simp only [LinePort.link, hcut, and_self, if_true, State.cutFrame]
    exact ⟨by intro b hb; cases b <;> simp [Block.Same] at hb ⊢, trivial⟩
  · simp [LinePort.link, hcut, ChangesOnly.refl]

/-- Settles O7, port by port: `setLink` takes the report, and `cutFrame` what a loss of the link cuts short. -/
theorem portsFollowThePhysicalLayer : Obligations.PortsFollowThePhysicalLayer := by
  intro s
  refine ⟨⟨_, exec_portLinkUp _ s, rfl, ?_, setLink_changesOnly _ _ _⟩,
    ⟨_, exec_portLinkUp _ s, rfl, ?_, setLink_changesOnly _ _ _⟩,
    fun cut => ⟨_, exec_portLinkDown _ cut s, ?_⟩, fun cut => ⟨_, exec_portLinkDown _ cut s, ?_⟩⟩
  · cases h : s.pins.resetN <;> simp [h, LinePort.setLink]
  · cases h : s.pins.resetN <;> simp [h, LinePort.setLink]
  · obtain ⟨hcut, hport⟩ := cutFrame_in s cut
    have hpins := hcut .pins (by decide)
    refine ⟨?_, ?_, (hcut.mono (by simp)).trans (setLink_changesOnly _ _ _)⟩
    · rw [State.setLink_pins, hpins]; rfl
    · rw [State.setLink_port, hpins, hport]
      cases s.pins.resetN <;> simp [LinePort.setLink]
  · obtain ⟨hcut, hsent⟩ := cutFrame_out s cut
    have hpins := hcut .pins (by decide)
    refine ⟨?_, ?_, hsent, (hcut.mono (by simp)).trans ((setLink_changesOnly _ _ _).mono (by simp))⟩
    · rw [State.setLink_pins, hpins]; rfl
    · rw [State.setLink_port, hpins, hcut .port (by decide)]
      cases s.pins.resetN <;> simp [LinePort.setLink]

/-! ### A frame arrives (R2 to R6) -/

theorem exec_frameArrival_out (time : Nat) (frame : EthFrame) (s : State) :
    exec (.frameArrival .ringOut time frame) s = .next (s.advanceTo time) := rfl

theorem exec_frameArrival_loading (time : Nat) (frame : EthFrame) (s : State) (hreset : s.pins.resetN = true)
    (hup : s.port.inUp = true) (hload : s.svc.node = .loading) :
    exec (.frameArrival .ringIn time frame) s = .next (s.forward frame) := by
  simp [exec, execFrameArrival, hreset, hup, hload]

theorem exec_frameArrival_running (time : Nat) (frame : EthFrame) (s : State) (hreset : s.pins.resetN = true)
    (hup : s.port.inUp = true) (hrun : s.svc.node ≠ .loading) :
    exec (.frameArrival .ringIn time frame) s = .next ((s.advanceTo time).receive frame time) := by
  simp [exec, execFrameArrival, hreset, hup, hrun]

theorem receive_fcsFailed (s : State) (frame : EthFrame) (time : Nat) (hfcs : frame.fcsOk = false) :
    s.receive frame time = s.countFcs.forward frame := by
  simp [State.receive, hfcs]

theorem receive_otherType (s : State) (frame : EthFrame) (time : Nat) (hfcs : frame.fcsOk = true)
    (htype : frame.etherType ≠ 0x89A2) : s.receive frame time = s.forward frame := by
  rw [State.receive, if_neg (by simp [hfcs]), if_pos (show frame.etherType ≠ lineFrameType from htype)]

theorem receive_malformed (s : State) (frame : EthFrame) (time : Nat) (hfcs : frame.fcsOk = true)
    (htype : frame.etherType = 0x89A2) (hparse : parseFrame frame.payload = none) :
    s.receive frame time = s.countMalformed.forward frame := by
  simp [State.receive, hfcs, lineFrameType, htype, hparse]

theorem receive_lineFrame (s : State) (frame : EthFrame) (time : Nat) (f : LineFrame) (hfcs : frame.fcsOk = true)
    (htype : frame.etherType = 0x89A2) (hparse : parseFrame frame.payload = some f) :
    s.receive frame time = s.process f time := by
  simp [State.receive, hfcs, lineFrameType, htype, hparse]

theorem forward_eq (s : State) (f : EthFrame) :
    s.forward f = { s with sent := if s.port.outUp then s.sent ++ [f] else s.sent } := by
  unfold State.forward; split <;> rfl

/-- Settles O8: on port OUT a frame only lets local time move on. -/
theorem frameOnPortOutIsDropped : Obligations.FrameOnPortOutIsDropped :=
  fun s time f => exec_frameArrival_out time f s

/-- Settles O9: the frame is counted and forwarded. -/
theorem fcsFailedFrameIsForwarded : Obligations.FcsFailedFrameIsForwarded := by
  intro s time f hreset hup hrun hfcs
  refine ⟨_, exec_frameArrival_running time f s hreset hup hrun, ?_⟩
  rw [receive_fcsFailed _ f time hfcs]
  exact ⟨by simp, by simp [State.forward_sent],
    ((countFcs_changesOnly _).mono (by simp)).trans ((forward_changesOnly _ _).mono (by simp))⟩

/-! ### The sample set (R8) -/

/-- `cellOf` finds the first entry of CELL_MAP that names the channel. -/
theorem cellOf_eq_some (c : Commissioning) (ch i : Nat) : c.cellOf ch = some i ↔ inputEntry c ch i := by
  unfold Commissioning.cellOf inputEntry
  rw [firstSome_tabulate]
  refine exists_congr fun k => and_congr_right fun _ => ?_
  simp only [ite_eq_right_iff, reduceCtorEq, imp_false, Option.ite_none_right_eq_some, Option.some.injEq, and_assoc]
  rfl

theorem channelSample_unmapped (c : Commissioning) (cells : List Cell) (ch : Nat) (h : c.cellOf ch = none) :
    channelSample c cells ch = .absent := by
  simp [channelSample, h]

theorem channelSample_beyond (c : Commissioning) (cells : List Cell) (ch i : Nat) (h : c.cellOf ch = some i)
    (hlen : cells.length ≤ i) : channelSample c cells ch = .absent := by
  simp [channelSample, h, List.getElem?_eq_none hlen]

theorem channelSample_cell (c : Commissioning) (cells : List Cell) (ch i : Nat) (cell : Cell) (h : c.cellOf ch = some i)
    (hcell : cells[i]? = some cell) : channelSample c cells ch = cell.sample := by
  simp [channelSample, h, hcell]

theorem sampleSet_air (c : Commissioning) (cells : List Cell) (z : Nat) (hz : z < 6) :
    (sampleSet c cells).air z = channelSample c cells (7 + z) := by
  simp [SampleSet.air, sampleSet, tabulate, List.getD_eq_getElem?_getD, hz]

/-- Settles O15, from what `cellOf` finds and what a cell's sample is. -/
theorem samplesAreFormedFromCells : Obligations.SamplesAreFormedFromCells := by
  intro c cells
  refine ⟨cellOf_eq_some c, fun ch => ⟨channelSample_unmapped c cells ch, fun i h =>
      ⟨channelSample_beyond c cells ch i h, fun v q hcell => ?_⟩⟩,
    rfl, rfl, rfl, rfl, rfl, rfl, sampleSet_air c cells, rfl, rfl, rfl, rfl⟩
  rw [channelSample_cell c cells ch i _ h hcell]
  refine ⟨fun hq => ?_, fun h1 h2 => ?_⟩
  · rw [Cell.sample, if_pos hq, signedCell]
  · rw [Cell.sample, if_neg (not_or_intro h1 h2)]

/-! ### Output cells (R9, R10) -/

theorem isOutputChannel_iff (ch : Nat) : isOutputChannel ch = true ↔ 32 ≤ ch ∧ ch ≤ 55 := by
  simp [isOutputChannel]

/-- `outputAt` finds the first entry of CELL_MAP that pairs the cell with an output channel. -/
theorem outputAt_eq_some (c : Commissioning) (i ch : Nat) : c.outputAt i = some ch ↔ outputEntry c i ch := by
  unfold Commissioning.outputAt outputEntry
  rw [firstSome_tabulate]
  refine exists_congr fun k => and_congr_right fun _ => ?_
  simp only [ite_eq_right_iff, reduceCtorEq, imp_false, Option.ite_none_right_eq_some, Option.some.injEq,
    isOutputChannel_iff]
  change _ ↔ c.mapChannel k = ch ∧ c.mapCell k = i ∧ 32 ≤ ch ∧ ch ≤ 55
    ∧ ∀ j < k, c.mapCell j = i → c.mapChannel j < 32 ∨ 55 < c.mapChannel j
  have earlier : (∀ j < k, ¬ ((32 ≤ c.mapChannel j ∧ c.mapChannel j ≤ 55) ∧ c.mapCell j = i))
      ↔ ∀ j < k, c.mapCell j = i → c.mapChannel j < 32 ∨ 55 < c.mapChannel j :=
    forall₂_congr fun j _ => by omega
  rw [earlier]
  constructor
  · rintro ⟨⟨⟨hrange, hcell⟩, rfl⟩, hfirst⟩; exact ⟨rfl, hcell, hrange.1, hrange.2, hfirst⟩
  · rintro ⟨rfl, hcell, low, high, hfirst⟩; exact ⟨⟨⟨⟨low, high⟩, hcell⟩, rfl⟩, hfirst⟩

theorem writeCell_of_entry (s : State) (i ch : Nat) (cell : Cell) (h : outputEntry s.svc.active.comm i ch) :
    s.writeCell i cell = ⟨s.outputValue ch, 1⟩ := by
  simp [State.writeCell, (outputAt_eq_some _ i ch).2 h]

theorem writeCell_of_no_entry (s : State) (i : Nat) (cell : Cell) (h : ∀ ch, ¬ outputEntry s.svc.active.comm i ch) :
    s.writeCell i cell = cell := by
  have : s.svc.active.comm.outputAt i = none :=
    Option.eq_none_iff_forall_ne_some.2 fun ch hch => h ch ((outputAt_eq_some _ i ch).1 hch)
  simp [State.writeCell, this]

theorem clamp_zero (x : Int) (m : Nat) : clamp x 0 m = max 0 (min x m) := by
  unfold clamp; split
  · omega
  · split <;> omega

theorem fireValue_eq (s : State) (z : Nat) :
    s.fireValue z =
      if s.trip.latch then 0
      else max 0 (min (s.port.readSide.fire.getD z 0) (s.svc.active.comm.maxFire z)) := by
  simp only [State.fireValue, clamp_zero]

theorem outputValue_fire (s : State) (z : Nat) (hz : z < 6) : s.outputValue (32 + z) = cellBits (s.fireValue z) := by
  rw [State.outputValue, if_pos (by omega), Nat.add_sub_cancel_left]

/-- A channel that is not FIRE carries the read side's value (R9). -/
theorem outputValue_other (s : State) (ch : Nat) (h : 38 ≤ ch) : s.outputValue ch = s.port.readSide.value ch := by
  rw [State.outputValue, if_neg (by omega)]

/-- What a passing list of range checks says of each word it covers. -/
theorem checkRanges_eq_none (ws : List Word) (ranges : List (Nat × Nat)) (failure : Nat → Failure) :
    checkRanges ws ranges failure = none ↔ ∀ i r, ranges[i]? = some r → r.1 ≤ item ws i ∧ item ws i ≤ r.2 := by
  have passes (i : Nat) (r : Nat × Nat) :
      check (itemIn ws i r) (failure i) = none ↔ r.1 ≤ item ws i ∧ item ws i ≤ r.2 := by
    simp [check, itemIn, within]
  rw [checkRanges, firstSome_eq_none, List.forall_mem_map]
  constructor
  · exact fun h i r hr => (passes i r).1 (h (r, i) (List.mk_mem_zipIdx_iff_getElem?.2 hr))
  · exact fun h p hp => (passes p.2 p.1).2 (h p.2 p.1 (List.mk_mem_zipIdx_iff_getElem?.1 hp))

/-- An accepted max fire is at most 100.00 % (Table 5.8). -/
theorem Commissioning.Accepted.maxFire_le {c : Commissioning} (h : c.Accepted) {z : Nat} (hz : z < 6) :
    c.maxFire z ≤ 10000 := by
  rcases h with rfl | h
  · interval_cases z <;> decide
  · have hlimits : checkLimits c.limits = none := (firstSome_eq_none _).1 h _ (by simp)
    have hranges : checkRanges c.limits limitRanges limitsOutOfRange = none := (firstSome_eq_none _).1 hlimits _ (by simp)
    have hrange : limitRanges[19 + 9 * z + 2]? = some (0, 10000) := by interval_cases z <;> rfl
    exact ((checkRanges_eq_none _ _ _).1 hranges _ _ hrange).2

/-- A number of 15 bits survives the way through a cell. -/
theorem cellBits_toInt (x : Int) (low : 0 ≤ x) (high : x ≤ 10000) : (cellBits x).toInt = x := by
  rw [cellBits, BitVec.toInt_ofInt_eq_self (by omega) (by omega) (by omega)]

/-- Settles O17: the value written is bounded by a max fire that the accepted tables keep within 16 bits. -/
theorem fireCellsAreBounded : Obligations.FireCellsAreBounded := by
  intro s i z cell haccepted hz hentry
  have hmax : s.svc.active.comm.maxFire z ≤ 10000 := haccepted.1.maxFire_le hz
  have hcell : s.writeCell i cell = ⟨cellBits (s.fireValue z), 1⟩ := by
    rw [writeCell_of_entry s i _ cell hentry, outputValue_fire s z hz]
  have hfire := fireValue_eq s z
  rw [hcell]
  cases hlatch : s.trip.latch with
  | true =>
    have hzero : s.fireValue z = 0 := by simpa [hlatch] using hfire
    simp [hzero, cellBits]
  | false =>
    simp only [hlatch, Bool.false_eq_true, if_false] at hfire
    have hvalue := cellBits_toInt (s.fireValue z) (by omega) (by omega)
    refine ⟨rfl, ?_, ?_, by simp, fun _ => hvalue.trans hfire⟩
    · exact hvalue.symm ▸ (by omega)
    · exact hvalue.symm ▸ (by omega)

/-! ### Numbers, cells and records as bytes (R179) -/

@[simp] theorem natToBytes_length (n v : Nat) : (natToBytes n v).length = n := by
  induction n with
  | zero => rfl
  | succ n ih => simp [natToBytes, ih]

theorem foldl_natToBytes (n v acc : Nat) :
    (natToBytes n v).foldl (fun acc b => acc * 256 + b.toNat) acc = acc * 256 ^ n + v % 256 ^ n := by
  induction n generalizing acc with
  | zero => simp [natToBytes, Nat.mod_one]
  | succ n ih =>
    rw [natToBytes, List.foldl_cons, ih, Nat.mod_pow_succ, BitVec.toNat_ofNat]
    ring

/-- A number written in enough bytes comes back. -/
theorem bytesToNat_natToBytes (n v : Nat) (h : v < 256 ^ n) : bytesToNat (natToBytes n v) = v := by
  rw [bytesToNat, foldl_natToBytes, Nat.zero_mul, Nat.zero_add, Nat.mod_eq_of_lt h]

theorem ofNat_bytesToNat_natToBytes {w : Nat} (n : Nat) (x : BitVec w) (h : 2 ^ w ≤ 256 ^ n) :
    BitVec.ofNat w (bytesToNat (natToBytes n x.toNat)) = x := by
  rw [bytesToNat_natToBytes n _ (x.isLt.trans_le h), BitVec.ofNat_toNat, BitVec.setWidth_eq]

theorem splitBytes_append (n : Nat) (front back : List Byte) (h : front.length = n) :
    splitBytes n (front ++ back) = some (front, back) := by
  subst h; simp [splitBytes]

theorem splitBytes_eq_some {n : Nat} {bs front back : List Byte} (h : splitBytes n bs = some (front, back)) :
    front.length = n ∧ bs = front ++ back := by
  unfold splitBytes at h
  split at h
  · obtain ⟨rfl, rfl⟩ := Prod.mk.inj (Option.some.inj h)
    exact ⟨List.length_take_of_le ‹_›, (List.take_append_drop n bs).symm⟩
  · cases h

theorem splitBytes_eq_none {n : Nat} {bs : List Byte} (h : bs.length < n) : splitBytes n bs = none := by
  rw [splitBytes, if_neg (by omega)]

/-! ### Cells -/

@[simp] theorem cellBytes_length (c : Cell) : (cellBytes c).length = 3 := by simp [cellBytes]

/-- The cells written are the cells read, and what follows them is left. -/
theorem parseCells_flatMap (cells : List Cell) (rest : List Byte) :
    parseCells cells.length (cells.flatMap cellBytes ++ rest) = some (cells, rest) := by
  induction cells with
  | nil => rfl
  | cons c cells ih =>
    rw [List.length_cons, parseCells, List.flatMap_cons, List.append_assoc, splitBytes_append 3 _ _ (cellBytes_length c)]
    have hvalue : BitVec.ofNat 16 (numberAt (cellBytes c) 0 2) = c.value :=
      ofNat_bytesToNat_natToBytes 2 c.value (by norm_num)
    have hquality : byteAt (cellBytes c) 2 = c.quality := rfl
    simp only [ih, hvalue, hquality]

theorem parseCells_eq_some {n : Nat} {bs rest : List Byte} {cells : List Cell}
    (h : parseCells n bs = some (cells, rest)) : cells.length = n ∧ bs.length = 3 * n + rest.length := by
  induction n generalizing bs cells with
  | zero =>
    obtain ⟨rfl, rfl⟩ := Prod.mk.inj (Option.some.inj h)
    simp
  | succ n ih =>
    rw [parseCells] at h
    split at h
    · cases h
    · next front back hsplit =>
      obtain ⟨hlen, rfl⟩ := splitBytes_eq_some hsplit
      split at h
      · cases h
      · next tail rest' htail =>
        obtain ⟨rfl, rfl⟩ := Prod.mk.inj (Option.some.inj h)
        obtain ⟨hcells, hbytes⟩ := ih htail
        exact ⟨by rw [List.length_cons, hcells], by rw [List.length_append, hbytes, hlen]; ring⟩

/-! ### Records -/

/-- The first 20 bytes of a record (Table 12.2). -/
def recordHead (r : Record) : List Byte :=
  [r.mode, r.kind, r.table, r.option] ++ natToBytes 6 r.address.toNat ++ natToBytes 2 r.index.toNat
    ++ [r.count, r.status, r.reason, BitVec.ofNat 8 r.payload.length] ++ natToBytes 4 r.view.toNat

theorem recordBytes_eq (r : Record) : recordBytes r = recordHead r ++ r.payload.flatMap wordBytes := rfl

theorem recordHead_length (r : Record) : (recordHead r).length = 20 := by simp [recordHead]

theorem flatMap_wordBytes_length (ws : List Word) : (ws.flatMap wordBytes).length = 4 * ws.length := by
  induction ws with
  | nil => rfl
  | cons w ws ih =>
    simp only [List.flatMap_cons, List.length_append, ih, wordBytes, natToBytes_length, List.length_cons]
    ring

theorem bytesToWords_flatMap (ws : List Word) : bytesToWords ws.length (ws.flatMap wordBytes) = ws := by
  induction ws with
  | nil => rfl
  | cons w ws ih =>
    have hlen : (wordBytes w).length = 4 := natToBytes_length 4 _
    rw [List.length_cons, bytesToWords, List.flatMap_cons, ← hlen, List.take_left, List.drop_left, ih, wordBytes,
      ofNat_bytesToNat_natToBytes 4 w (by norm_num)]

/-- The fields of a record come back from its bytes. -/
theorem recordOf_recordHead (r : Record) : recordOf (recordHead r) (r.payload.flatMap wordBytes) = r := by
  have haddress : BitVec.ofNat 48 (numberAt (recordHead r) 4 6) = r.address :=
    ofNat_bytesToNat_natToBytes 6 r.address (by norm_num)
  have hindex : BitVec.ofNat 16 (numberAt (recordHead r) 10 2) = r.index :=
    ofNat_bytesToNat_natToBytes 2 r.index (by norm_num)
  have hview : BitVec.ofNat 32 (numberAt (recordHead r) 16 4) = r.view :=
    ofNat_bytesToNat_natToBytes 4 r.view (by norm_num)
  have hpayload : bytesToWords ((r.payload.flatMap wordBytes).length / 4) (r.payload.flatMap wordBytes) = r.payload := by
    rw [flatMap_wordBytes_length, Nat.mul_div_cancel_left _ (by norm_num), bytesToWords_flatMap]
  simp only [recordOf, haddress, hindex, hview, hpayload]
  rfl

/-- A record written is the record read, and what follows it is left. -/
theorem parseRecord_recordBytes (r : Record) (rest : List Byte) (h : r.payload.length ≤ 16) :
    parseRecord (recordBytes r ++ rest) = some (r, rest) := by
  have hlen : (byteAt (recordHead r) 15).toNat = r.payload.length := by
    have hbyte : byteAt (recordHead r) 15 = BitVec.ofNat 8 r.payload.length := rfl
    rw [hbyte, BitVec.toNat_ofNat, Nat.mod_eq_of_lt (by omega)]
  rw [recordBytes_eq, List.append_assoc, parseRecord, splitBytes_append 20 _ _ (recordHead_length r)]
  simp only [hlen, splitBytes_append _ _ rest (flatMap_wordBytes_length r.payload), recordOf_recordHead]
  exact if_neg (by omega)

/-- Records written are the records read; more of them are read from what follows. -/
theorem parseRecords_flatMap (records : List Record) (n : Nat) (rest : List Byte)
    (h : ∀ r ∈ records, r.payload.length ≤ 16) :
    parseRecords (records.length + n) (records.flatMap recordBytes ++ rest) =
      (parseRecords n rest).map fun p => (records ++ p.1, p.2) := by
  induction records with
  | nil => simp
  | cons r records ih =>
    obtain ⟨hr, hrecords⟩ := List.forall_mem_cons.1 h
    have hcount : (r :: records).length + n = (records.length + n) + 1 := by rw [List.length_cons]; omega
    rw [hcount, parseRecords, List.flatMap_cons, List.append_assoc, parseRecord_recordBytes r _ hr]
    simp only [ih hrecords]
    cases parseRecords n rest <;> rfl

/-- A record whose head or payload runs past the end, or that declares more than 16 words, is none (R4). -/
theorem parseRecord_eq_none {bs : List Byte}
    (h : bs.length < 20 ∨ 16 < (bs.getD 15 0).toNat ∨ bs.length < 20 + 4 * (bs.getD 15 0).toNat) :
    parseRecord bs = none := by
  unfold parseRecord
  split
  · rfl
  · next head rest hsplit =>
    obtain ⟨hlen, rfl⟩ := splitBytes_eq_some hsplit
    have hdeclared : byteAt head 15 = (head ++ rest).getD 15 0 := (List.getD_append _ _ _ _ (by omega)).symm
    rw [← hdeclared, List.length_append] at h
    split
    · rfl
    · rw [splitBytes_eq_none (by omega)]

/-! ### Frames -/

theorem parseLanes_eq_some {kind : FrameKind} {number : BitVec 32} {cells records : Nat} {bs : List Byte}
    {f : LineFrame} (h : parseLanes kind number cells records bs = some f) :
    f.kind = kind ∧ ∃ rest, parseCells cells bs = some (f.cells, rest) := by
  unfold parseLanes at h
  split at h
  · cases h
  · next cs rest hcells =>
    split at h
    · cases h
    · obtain rfl := Option.some.inj h
      exact ⟨rfl, rest, hcells⟩

theorem byteAt_take (bs : List Byte) (n i : Nat) (h : i < n) : byteAt (bs.take n) i = bs.getD i 0 := by
  simp [byteAt, List.getD_eq_getElem?_getD, List.getElem?_take_of_lt h]

/-- A number of two bytes. -/
theorem numberAt_two (bs : List Byte) (i : Nat) (h : i + 1 < bs.length) :
    numberAt bs i 2 = (bs.getD i 0).toNat * 256 + (bs.getD (i + 1) 0).toNat := by
  rw [numberAt, List.drop_eq_getElem_cons (by omega), List.drop_eq_getElem_cons h]
  rw [List.getD_eq_getElem _ _ h, List.getD_eq_getElem _ _ (Nat.lt_of_succ_lt h), List.take_succ_cons,
    List.take_succ_cons, List.take_zero, bytesToNat, List.foldl_cons, List.foldl_cons, List.foldl_nil, Nat.zero_mul, Nat.zero_add]

theorem FrameKind.ofCode_code (kind : FrameKind) : FrameKind.ofCode kind.code = some kind := by cases kind <;> rfl

theorem FrameKind.ofCode_eq_some {c : Byte} {kind : FrameKind} (h : FrameKind.ofCode c = some kind) :
    c = kind.code := by
  unfold FrameKind.ofCode at h
  split at h
  · obtain rfl := Option.some.inj h; assumption
  · split at h
    · obtain rfl := Option.some.inj h; assumption
    · cases h

/-- What a payload that parses satisfies: the checks of R4 on its header, and lanes that its header describes. -/
theorem parseFrame_eq_some {bs : List Byte} {f : LineFrame} (h : parseFrame bs = some f) :
    9 ≤ bs.length ∧ bs.getD 0 0 = 1 ∧ bs.getD 1 0 = f.kind.code ∧ numberAt (bs.take 9) 6 2 ≤ 256
      ∧ (bs.getD 8 0).toNat ≤ 8 ∧ (f.kind = .service → numberAt (bs.take 9) 6 2 = 0)
      ∧ ∃ rest, parseCells (numberAt (bs.take 9) 6 2) (bs.drop 9) = some (f.cells, rest) := by
  have hlen : 9 ≤ bs.length := by
    by_contra hshort
    rw [parseFrame, splitBytes_eq_none (by omega)] at h
    cases h
  rw [parseFrame, splitBytes, if_pos hlen] at h
  simp only [byteAt_take, Nat.reduceLT] at h
  split at h
  · cases h
  · next kind hkind =>
    split at h
    · cases h
    · next hchecks =>
      obtain ⟨rfl, hcells⟩ := parseLanes_eq_some h
      simp only [not_or, not_and, not_lt, ne_eq, not_not] at hchecks
      obtain ⟨hversion, hcount, hrecords, hservice⟩ := hchecks
      exact ⟨hlen, hversion, FrameKind.ofCode_eq_some hkind, hcount, hrecords, hservice, hcells⟩

/-- A SERVICE frame carries no cells. -/
theorem parseFrame_service_cells {bs : List Byte} {f : LineFrame} (h : parseFrame bs = some f)
    (hkind : f.kind = .service) : f.cells = [] := by
  obtain ⟨-, -, -, -, -, hservice, rest, hcells⟩ := parseFrame_eq_some h
  rw [← List.length_eq_zero_iff, (parseCells_eq_some hcells).1, hservice hkind]

/-- A well-formed header is read as the lanes it describes. -/
theorem parseFrame_header (kind : FrameKind) (number : BitVec 32) (cells : Nat) (declared : Byte) (rest : List Byte)
    (hcells : cells ≤ 256) (hdeclared : declared.toNat ≤ 8) (hservice : kind = .service → cells = 0) :
    parseFrame ([1, kind.code] ++ natToBytes 4 number.toNat ++ natToBytes 2 cells ++ [declared] ++ rest) =
      parseLanes kind number cells declared.toNat rest := by
  generalize hhead : [1, kind.code] ++ natToBytes 4 number.toNat ++ natToBytes 2 cells ++ [declared] = head
  have hlen : head.length = 9 := by simp [← hhead]
  have hversion : byteAt head 0 = 1 := by rw [← hhead]; rfl
  have hkind : FrameKind.ofCode (byteAt head 1) = some kind := by rw [← hhead]; exact FrameKind.ofCode_code kind
  have hnumber : BitVec.ofNat 32 (numberAt head 2 4) = number := by
    rw [← hhead]; exact ofNat_bytesToNat_natToBytes 4 number (by norm_num)
  have hcount : numberAt head 6 2 = cells := by
    rw [← hhead]; exact bytesToNat_natToBytes 2 cells (by omega)
  have hrecords : byteAt head 8 = declared := by rw [← hhead]; rfl
  rw [parseFrame, splitBytes_append 9 head rest hlen]
  simp only [hkind, hversion, hnumber, hcount, hrecords]
  refine if_neg ?_
  rintro (h | h | h | ⟨h, h'⟩)
  · exact h rfl
  · omega
  · omega
  · exact h' (hservice h)

/-- The malformations of R4 that the header and the length of the cells show. -/
theorem parseFrame_eq_none (bs : List Byte)
    (h : bs.length < 9
      ∨ bs.getD 0 0 ≠ 1
      ∨ (bs.getD 1 0 ≠ 1 ∧ bs.getD 1 0 ≠ 2)
      ∨ 256 < (bs.getD 6 0).toNat * 256 + (bs.getD 7 0).toNat
      ∨ 8 < (bs.getD 8 0).toNat
      ∨ (bs.getD 1 0 = 2 ∧ (bs.getD 6 0).toNat * 256 + (bs.getD 7 0).toNat ≠ 0)
      ∨ bs.length < 9 + 3 * ((bs.getD 6 0).toNat * 256 + (bs.getD 7 0).toNat)) :
    parseFrame bs = none := by
  rw [Option.eq_none_iff_forall_ne_some]
  intro f hf
  obtain ⟨hlen, hversion, hkind, hcount, hrecords, hservice, rest, hcells⟩ := parseFrame_eq_some hf
  have hbytes := (parseCells_eq_some hcells).2
  have htwo : numberAt (bs.take 9) 6 2 = (bs.getD 6 0).toNat * 256 + (bs.getD 7 0).toNat := by
    rw [numberAt_two _ 6 (by rw [List.length_take]; omega), ← byteAt_take bs 9 6 (by omega),
      ← byteAt_take bs 9 7 (by omega)]
    rfl
  rw [htwo] at hcount hservice hbytes
  rw [List.length_drop] at hbytes
  rcases h with h | h | ⟨h1, h2⟩ | h | h | ⟨h1, h2⟩ | h
  · omega
  · exact h hversion
  · cases hk : f.kind <;> rw [hk] at hkind
    · exact h1 hkind
    · exact h2 hkind
  · omega
  · omega
  · cases hk : f.kind <;> rw [hk] at hkind
    · rw [h1] at hkind; exact absurd hkind (by decide)
    · exact h2 (hservice hk)
  · omega

/-- A record lane that runs out: after the well-formed records a record that is none. -/
theorem parseFrame_badRecord (f : LineFrame) (declared : Byte) (bad : List Byte) (hf : f.wellFormed = true)
    (hmore : f.records.length < declared.toNat)
    (hbad : bad.length < 20 ∨ 16 < (bad.getD 15 0).toNat ∨ bad.length < 20 + 4 * (bad.getD 15 0).toNat) :
    parseFrame
      ([1, f.kind.code] ++ natToBytes 4 f.number.toNat ++ natToBytes 2 f.cells.length ++ [declared]
        ++ f.cells.flatMap cellBytes ++ f.records.flatMap recordBytes ++ bad) = none := by
  simp only [LineFrame.wellFormed, Bool.and_eq_true, Bool.or_eq_true, decide_eq_true_eq, beq_iff_eq, List.isEmpty_iff,
    List.all_eq_true] at hf
  obtain ⟨⟨⟨hcells, -⟩, hkind⟩, hpayload⟩ := hf
  have hservice : f.kind = .service → f.cells.length = 0 := by
    intro h; rw [hkind.resolve_left (by simp [h])]; rfl
  rw [List.append_assoc _ _ bad, List.append_assoc _ _ (_ ++ bad)]
  by_cases hdeclared : declared.toNat ≤ 8
  · rw [parseFrame_header _ _ _ _ _ hcells hdeclared hservice]
    obtain ⟨more, hmore⟩ : ∃ more, declared.toNat = f.records.length + (more + 1) :=
      ⟨declared.toNat - f.records.length - 1, by omega⟩
    have hnone : parseRecords (more + 1) bad = none := by rw [parseRecords, parseRecord_eq_none hbad]
    rw [parseLanes, parseCells_flatMap, hmore]
    simp only [parseRecords_flatMap f.records (more + 1) bad hpayload, hnone, Option.map_none]
  · exact parseFrame_eq_none _ (.inr (.inr (.inr (.inr (.inl (by simpa [natToBytes] using hdeclared))))))

/-- Settles O10: while LOADING every frame passes; afterwards one of another type and a malformed one; and what is
malformed on its bytes. -/
theorem framesThatPassUnchanged : Obligations.FramesThatPassUnchanged := by
  refine ⟨fun s time f hreset hup hload => ?_, fun s time f hreset hup hrun hfcs hpass => ?_, parseFrame_eq_none,
    parseFrame_badRecord⟩
  · rw [exec_frameArrival_loading time f s hreset hup hload, forward_eq]
  · refine ⟨_, exec_frameArrival_running time f s hreset hup hrun, ?_⟩
    by_cases htype : f.etherType = 0x89A2
    · rw [receive_malformed _ f time hfcs htype (hpass.resolve_left (not_not_intro htype)), if_pos htype]
      exact ⟨by simp, by simp [State.forward_sent],
        ((countMalformed_changesOnly _).mono (by simp)).trans ((forward_changesOnly _ _).mono (by simp))⟩
    · rw [receive_otherType _ f time hfcs htype, if_neg htype]
      exact ⟨by simp, by simp [State.forward_sent], (forward_changesOnly _ _).mono (by simp)⟩

/-! ### What no service request touches (R162, R180) -/

/-- From `s` to `t` the part changes as service requests may change it: the Trip Unit, the Service Handler, the Parameter
Store and the output lines, but no active table. -/
def ServiceKeeps (s t : State) : Prop := ChangesOnly s t [.trip, .svc, .nv, .pins] ∧ t.svc.active = s.svc.active

theorem ServiceKeeps.refl (s : State) : ServiceKeeps s s := ⟨.refl s _, rfl⟩

theorem ServiceKeeps.trans {s t u : State} (hst : ServiceKeeps s t) (htu : ServiceKeeps t u) : ServiceKeeps s u :=
  ⟨hst.1.trans htu.1, htu.2.trans hst.2⟩

/-- A change of the Service Handler alone that leaves the active tables. -/
theorem serviceKeeps_of_svc (s : State) (h : Handler) (hactive : h.active = s.svc.active) :
    ServiceKeeps s { s with svc := h } :=
  ⟨by intro b hb; cases b <;> simp [Block.Same] at hb ⊢, hactive⟩

theorem serviceKeeps_setEnable (s : State) (w : Word) : ServiceKeeps s (s.setEnable w) :=
  ⟨by intro b hb; cases b <;> simp [Block.Same] at hb ⊢, rfl⟩

theorem serviceKeeps_setLatched (s : State) (m : BitVec 16) : ServiceKeeps s (s.setLatched m) :=
  ⟨by intro b hb; cases b <;> simp [Block.Same] at hb ⊢, rfl⟩

theorem serviceKeeps_toConfig (s : State) : ServiceKeeps s s.toConfig :=
  ⟨by intro b hb; cases b <;> simp [Block.Same] at hb ⊢, rfl⟩

theorem serviceKeeps_beginStore (s : State) : ServiceKeeps s s.beginStore :=
  ⟨by intro b hb; cases b <;> simp [Block.Same] at hb ⊢, rfl⟩

theorem serviceKeeps_resetTrip (s : State) : ServiceKeeps s s.resetTrip :=
  ⟨by intro b hb; cases b <;> simp [Block.Same, State.resetTrip] at hb ⊢, rfl⟩

theorem serviceKeeps_tripArrives (c : Cause) (s : State) : ServiceKeeps s (s.tripArrives c) :=
  ⟨by intro b hb; cases b <;> simp [Block.Same] at hb ⊢, by simp⟩

theorem serviceKeeps_checked {s : State} {k : RequestKind} {r : Request} {f : State × Reply} (h : ServiceKeeps s f.1) :
    ServiceKeeps s (s.checked k r f).1 := by
  unfold State.checked; split
  · exact .refl s
  · exact h

theorem serviceKeeps_onTable {s : State} {r : Request} {f : TableId → State × Reply} (h : ∀ t, ServiceKeeps s (f t).1) :
    ServiceKeeps s (onTable r s f).1 := by
  unfold onTable; split
  · exact .refl s
  · exact h _

theorem serviceKeeps_serveRead (r : Request) (s : State) : ServiceKeeps s (serveRead r s).1 := by
  refine serviceKeeps_checked (serviceKeeps_onTable fun t => ?_)
  split <;> exact .refl s

theorem serviceKeeps_serveWrite (r : Request) (s : State) : ServiceKeeps s (serveWrite r s).1 := by
  refine serviceKeeps_checked (serviceKeeps_onTable fun t => ?_)
  split
  · exact .refl s
  · split
    · exact serviceKeeps_setEnable s _
    · exact serviceKeeps_of_svc s _ rfl

theorem serviceKeeps_serveDiscard (r : Request) (s : State) : ServiceKeeps s (serveDiscard r s).1 := by
  refine serviceKeeps_checked (serviceKeeps_onTable fun t => ?_)
  split
  · exact .refl s
  · exact serviceKeeps_of_svc s _ rfl

theorem serviceKeeps_serveCommit (r : Request) (s : State) : ServiceKeeps s (serveCommit r s).1 := by
  refine serviceKeeps_checked (serviceKeeps_onTable fun t => ?_)
  split
  · exact .refl s
  · split
    · exact .refl s
    · exact serviceKeeps_of_svc s _ rfl

theorem serviceKeeps_serveEnterConfig (r : Request) (s : State) : ServiceKeeps s (serveEnterConfig r s).1 := by
  refine serviceKeeps_checked ?_
  split_ifs
  exacts [.refl s, .refl s, .refl s, serviceKeeps_toConfig s]

theorem serviceKeeps_serveLeaveConfig (r : Request) (s : State) : ServiceKeeps s (serveLeaveConfig r s).1 := by
  refine serviceKeeps_checked ?_
  split_ifs
  · exact .refl s
  · exact .refl s
  · exact .refl s
  · split
    · exact .refl s
    · exact serviceKeeps_of_svc s _ rfl

theorem serviceKeeps_serveStore (r : Request) (s : State) : ServiceKeeps s (serveStore r s).1 := by
  refine serviceKeeps_checked ?_
  split_ifs
  exacts [.refl s, .refl s, serviceKeeps_beginStore s]

theorem serviceKeeps_serveTripReset (r : Request) (s : State) : ServiceKeeps s (serveTripReset r s).1 := by
  refine serviceKeeps_checked ?_
  split_ifs
  exacts [.refl s, .refl s, .refl s, serviceKeeps_resetTrip s]

theorem serviceKeeps_serveTestTrip (r : Request) (s : State) : ServiceKeeps s (serveTestTrip r s).1 := by
  refine serviceKeeps_checked ?_
  split_ifs
  exacts [.refl s, serviceKeeps_tripArrives _ s]

theorem serviceKeeps_serveLineReset (r : Request) (s : State) : ServiceKeeps s (serveLineReset r s).1 := by
  refine serviceKeeps_checked ?_
  split_ifs
  exacts [.refl s, serviceKeeps_of_svc s _ rfl, .refl s]

theorem serviceKeeps_serve (k : RequestKind) (r : Request) (s : State) : ServiceKeeps s (serve k r s).1 := by
  cases k with
  | read => exact serviceKeeps_serveRead r s
  | write => exact serviceKeeps_serveWrite r s
  | commit => exact serviceKeeps_serveCommit r s
  | discard => exact serviceKeeps_serveDiscard r s
  | enterConfig => exact serviceKeeps_serveEnterConfig r s
  | leaveConfig => exact serviceKeeps_serveLeaveConfig r s
  | store => exact serviceKeeps_serveStore r s
  | clearLatched => exact serviceKeeps_checked (serviceKeeps_setLatched s _)
  | clearCauses => exact serviceKeeps_checked (serviceKeeps_of_svc s _ rfl)
  | clearCounters => exact serviceKeeps_checked (serviceKeeps_of_svc s _ rfl)
  | tripReset => exact serviceKeeps_serveTripReset r s
  | testTrip => exact serviceKeeps_serveTestTrip r s
  | lineReset => exact serviceKeeps_serveLineReset r s

theorem serviceKeeps_serveRecord (r : Record) (s : State) : ServiceKeeps s (serveRecord r s).1 := by
  unfold serveRecord; split
  · exact .refl s
  · exact serviceKeeps_serve _ _ s

/-- The whole service lane leaves what no request touches. -/
theorem serviceKeeps_serveLane (records : List Record) (s : State) : ServiceKeeps s (serveLane records s).1 := by
  induction records generalizing s with
  | nil => exact .refl s
  | cons r rest ih =>
    simp only [serveLane]
    split
    · split
      · exact serviceKeeps_serveRecord r s
      · exact (serviceKeeps_serveRecord r s).trans (ih _)
    · exact ih s

/-! ### Sets of flags and causes -/

theorem allFlags_getElem?_bit (f : Flag) : allFlags[f.bit]? = some f := by cases f <;> rfl

theorem Flag.bit_inj {f g : Flag} : f.bit = g.bit ↔ f = g :=
  ⟨fun h => Option.some.inj (by rw [← allFlags_getElem?_bit f, h, allFlags_getElem?_bit]), congrArg _⟩

theorem Flag.bit_lt (f : Flag) : f.bit < 16 := by cases f <;> decide

/-- One flag more in a set. -/
theorem hasFlag_or_mask (m : BitVec 16) (f fl : Flag) :
    hasFlag (m ||| f.mask) fl = true ↔ hasFlag m fl = true ∨ fl = f := by
  have hmask : f.mask = BitVec.twoPow 16 f.bit := by cases f <;> decide
  rw [hasFlag, hasFlag, BitVec.getLsbD_or, hmask, BitVec.getLsbD_twoPow, Bool.or_eq_true, Bool.and_eq_true,
    decide_eq_true_eq, decide_eq_true_eq, Flag.bit_inj, eq_comm (a := f), and_iff_right f.bit_lt]

theorem breakLine_mask_getLsbD (k : Fin 4) (b : Nat) : (Cause.breakLine k).mask.getLsbD b = true ↔ k.val = b := by
  have hmask : (Cause.breakLine k).mask = BitVec.twoPow 10 k.val := by revert k; decide
  rw [hmask, BitVec.getLsbD_twoPow, Bool.and_eq_true, decide_eq_true_eq, decide_eq_true_eq]
  omega

/-- The causes of these break lines, as a set. -/
def lineCauses (ks : List (Fin 4)) : BitVec 10 := ks.foldr (fun k m => (Cause.breakLine k).mask ||| m) 0

theorem lineCauses_cons (k : Fin 4) (ks : List (Fin 4)) :
    lineCauses (k :: ks) = (Cause.breakLine k).mask ||| lineCauses ks := rfl

theorem lineCauses_append (ks ls : List (Fin 4)) : lineCauses (ks ++ ls) = lineCauses ks ||| lineCauses ls := by
  induction ks with
  | nil => simp [lineCauses]
  | cons k ks ih => rw [List.cons_append, lineCauses_cons, lineCauses_cons, ih, BitVec.or_assoc]

theorem lineCauses_getLsbD (ks : List (Fin 4)) (b : Nat) : (lineCauses ks).getLsbD b = true ↔ ∃ k ∈ ks, k.val = b := by
  induction ks with
  | nil => simp [lineCauses]
  | cons k ks ih => simp [lineCauses_cons, breakLine_mask_getLsbD, ih]

/-! ### Break lines that act, one after another (R147, R148, R153) -/

/-- The trip record after the break lines `ks` have tripped it in this order: the first one sets a clear latch, and every
one of them joins the causes and restarts the purge. -/
def TripUnit.lineTrips (t : TripUnit) (purge : Nat) : List (Fin 4) → TripUnit
  | [] => t
  | k :: ks =>
    { t with
      latch := true
      causes := (if t.latch then t.causes else 0) ||| lineCauses (k :: ks)
      firstCause := if t.latch then t.firstCause else some (.breakLine k)
      tripMark := !t.latch || t.tripMark
      flushMark := !t.latch || t.flushMark
      purgeTimer := some purge
      purgeDone := false }

theorem tripArrives_breakLine (k : Fin 4) (s : State) :
    (s.tripArrives (.breakLine k)).trip = s.trip.lineTrips s.svc.active.comm.purgeTime [k] := by
  cases h : s.trip.latch
  · rw [State.tripArrives_clear _ _ h]
    simp [TripUnit.latched, TripUnit.lineTrips, h, lineCauses]
  · rw [State.tripArrives_set _ _ h]
    simp [TripUnit.retriggered, TripUnit.lineTrips, h, lineCauses]

theorem lineTrips_append (t : TripUnit) (purge : Nat) (ks ls : List (Fin 4)) :
    (t.lineTrips purge ks).lineTrips purge ls = t.lineTrips purge (ks ++ ls) := by
  cases ks with
  | nil => rfl
  | cons k ks =>
    cases ls with
    | nil => simp [TripUnit.lineTrips]
    | cons l ls =>
      have hcauses : lineCauses (k :: (ks ++ l :: ls)) = lineCauses (k :: ks) ||| lineCauses (l :: ls) :=
        lineCauses_append (k :: ks) (l :: ls)
      simp [TripUnit.lineTrips, hcauses, BitVec.or_assoc]

/-- Which filters stand in the record makes no difference to a trip. -/
theorem lineTrips_filters (t : TripUnit) (purge : Nat) (ks : List (Fin 4)) (fs : List LineFilter) :
    ({ t with filters := fs } : TripUnit).lineTrips purge ks = { t.lineTrips purge ks with filters := fs } := by
  cases ks <;> rfl

/-- The lines among `ks` whose action is TRIP (R153). -/
def Commissioning.tripping (m : Commissioning) (ks : List (Fin 4)) : List (Fin 4) :=
  ks.filter fun k => m.lineAction k.val = .trip

theorem mem_tripping (m : Commissioning) (ks : List (Fin 4)) (k : Fin 4) :
    k ∈ m.tripping ks ↔ k ∈ ks ∧ m.lineAction k.val = .trip := by
  simp [Commissioning.tripping]

/-- From `s` to `t` the break lines `ks` have acted, in this order (R153), and levels may have been taken; nothing else has
happened. -/
structure LinesActed (s t : State) (ks : List (Fin 4)) : Prop where
  frame : ChangesOnly s t [.svc, .trip, .pins, .choices]
  svc : t.svc = { s.svc with latched := t.svc.latched }
  breakLines : t.pins.breakLines = s.pins.breakLines
  trip : t.trip = { s.trip.lineTrips s.svc.active.comm.purgeTime (s.svc.active.comm.tripping ks) with
    filters := t.trip.filters }
  latched (fl : Flag) : hasFlag t.svc.latched fl = true ↔
    hasFlag s.svc.latched fl = true
      ∨ (fl = .trip ∧ ∃ k ∈ ks, s.svc.active.comm.lineAction k.val = .trip)
      ∨ (fl = .notice ∧ ∃ k ∈ ks, s.svc.active.comm.lineAction k.val = .notice)

/-- The counter of choices and the filters may change without a line acting. -/
theorem LinesActed.none (s : State) (fs : List LineFilter) (choices : Nat) :
    LinesActed s { s with trip := { s.trip with filters := fs }, choices := choices } [] where
  frame := by intro b hb; cases b <;> simp [Block.Same] at hb ⊢
  svc := rfl
  breakLines := rfl
  trip := rfl
  latched fl := by simp

theorem LinesActed.active {s t : State} {ks : List (Fin 4)} (h : LinesActed s t ks) : t.svc.active = s.svc.active := by
  rw [h.svc]

theorem LinesActed.trans {s t u : State} {ks ls : List (Fin 4)} (hst : LinesActed s t ks) (htu : LinesActed t u ls) :
    LinesActed s u (ks ++ ls) where
  frame := hst.frame.trans htu.frame
  svc := by rw [htu.svc, hst.svc]
  breakLines := htu.breakLines.trans hst.breakLines
  trip := by
    rw [htu.trip, hst.active, hst.trip, lineTrips_filters, lineTrips_append, Commissioning.tripping,
      Commissioning.tripping, ← List.filter_append]
    rfl
  latched fl := by
    rw [htu.latched, hst.latched, hst.active]
    simp only [List.mem_append, or_and_right, exists_or, and_or_left, or_assoc, or_left_comm]

/-- A line that acts: by a trip, or by NOTICE alone. -/
theorem linesActed_lineAct (k : Fin 4) (s : State) : LinesActed s (s.lineAct k) [k] := by
  cases haction : s.svc.active.comm.lineAction k.val with
  | trip =>
    have hact : s.lineAct k = s.tripArrives (.breakLine k) := by simp [State.lineAct, haction]
    rw [hact]
    exact {
      frame := by intro b hb; cases b <;> simp [Block.Same] at hb ⊢
      svc := by simp
      breakLines := by cases h : s.trip.latch <;> simp [State.tripArrives_clear, State.tripArrives_set, h]
      trip := by
        rw [tripArrives_breakLine, Commissioning.tripping, List.filter_cons_of_pos (by simp [haction])]
        rfl
      latched := fun fl => by simp [hasFlag_or_mask, haction] }
  | notice =>
    have hact : s.lineAct k = s.latchFlag .notice := by simp [State.lineAct, haction]
    rw [hact]
    exact {
      frame := by intro b hb; cases b <;> simp [Block.Same] at hb ⊢
      svc := by simp
      breakLines := by simp
      trip := by
        rw [Commissioning.tripping, List.filter_cons_of_neg (by simp [haction])]
        rfl
      latched := fun fl => by simp [hasFlag_or_mask, haction] }

theorem lineAct_filters (k : Fin 4) (s : State) : (s.lineAct k).trip.filters = s.trip.filters := by
  unfold State.lineAct; split <;> simp

/-- Lines that act one after another. -/
theorem linesActed_foldl_lineAct (ks : List (Fin 4)) (s : State) :
    LinesActed s (ks.foldl (fun s' k => s'.lineAct k) s) ks
      ∧ (ks.foldl (fun s' k => s'.lineAct k) s).trip.filters = s.trip.filters := by
  induction ks generalizing s with
  | nil => exact ⟨.none s _ _, rfl⟩
  | cons k ks ih =>
    obtain ⟨hacted, hfilters⟩ := ih (s.lineAct k)
    exact ⟨(linesActed_lineAct k s).trans hacted, hfilters.trans (lineAct_filters k s)⟩

/-! ### Levels taken, one after another (R151, R152) -/

/-- Line `k` has the level at its terminals to take. -/
def State.untaken (s : State) (k : Fin 4) : Prop := (s.trip.filter k.val).taken ≠ some (s.pins.line k.val)

/-- The level at the terminals of line `k` would be a qualifying change (R152). -/
def State.qualifiesNow (s : State) (k : Fin 4) : Bool :=
  (s.svc.active.comm.lineMode k.val).qualifies (s.trip.filter k.val).taken (s.pins.line k.val)

theorem takeLevel_of_untaken (s : State) (k : Fin 4) (h : s.untaken k) :
    s.takeLevel k =
      if s.qualifiesNow k then ({ s with trip := s.trip.take k.val (s.pins.line k.val) } : State).lineAct k
      else { s with trip := s.trip.take k.val (s.pins.line k.val) } := by
  rw [State.takeLevel, if_neg h]; rfl

theorem linesActed_takeLevel (s : State) (k : Fin 4) (h : s.untaken k) :
    LinesActed s (s.takeLevel k) (if s.qualifiesNow k then [k] else []) := by
  have htake : LinesActed s { s with trip := s.trip.take k.val (s.pins.line k.val) } [] := .none s _ s.choices
  rw [takeLevel_of_untaken s k h]
  split
  · exact htake.trans (linesActed_lineAct k _)
  · exact htake

theorem takeLevel_filters (s : State) (k : Fin 4) (h : s.untaken k) :
    (s.takeLevel k).trip.filters =
      s.trip.filters.set k.val { s.trip.filter k.val with taken := some (s.pins.line k.val) } := by
  rw [takeLevel_of_untaken s k h]
  split
  · rw [lineAct_filters]; rfl
  · rfl

theorem takeLevel_filter_ne (s : State) (k j : Fin 4) (h : s.untaken k) (hne : k ≠ j) :
    (s.takeLevel k).trip.filter j.val = s.trip.filter j.val := by
  have hval : k.val ≠ j.val := fun e => hne (Fin.ext e)
  simp only [TripUnit.filter, takeLevel_filters s k h, List.getD_eq_getElem?_getD, List.getElem?_set_ne hval]

theorem takeLevel_filter_self (s : State) (k : Fin 4) (h : s.untaken k) (hlen : s.trip.filters.length = 4) :
    (s.takeLevel k).trip.filter k.val = { s.trip.filter k.val with taken := some (s.pins.line k.val) } := by
  rw [TripUnit.filter, takeLevel_filters s k h, List.getD_eq_getElem?_getD, List.getElem?_set_self (by omega)]
  rfl

theorem takeLevel_line (s : State) (k j : Fin 4) (h : s.untaken k) :
    (s.takeLevel k).pins.line j.val = s.pins.line j.val := by
  simp only [Pins.line, (linesActed_takeLevel s k h).breakLines]

/-- What is yet to be taken of another line, and whether it qualifies, stands when line `k` is taken. -/
theorem takeLevel_other (s : State) (k j : Fin 4) (h : s.untaken k) (hne : k ≠ j) :
    ((s.takeLevel k).untaken j ↔ s.untaken j) ∧ (s.takeLevel k).qualifiesNow j = s.qualifiesNow j := by
  simp only [State.untaken, State.qualifiesNow, takeLevel_filter_ne s k j h hne, takeLevel_line s k j h,
    (linesActed_takeLevel s k h).active, and_self]

/-- Levels taken one after another, of distinct lines: those that qualify act, in that order. -/
theorem linesActed_foldl_takeLevel (ks : List (Fin 4)) (s : State) (hnodup : ks.Nodup) (h : ∀ k ∈ ks, s.untaken k) :
    LinesActed s (ks.foldl (fun s' k => s'.takeLevel k) s) (ks.filter s.qualifiesNow) := by
  induction ks generalizing s with
  | nil => exact .none s _ _
  | cons k ks ih =>
    obtain ⟨hk, hks⟩ := List.forall_mem_cons.1 h
    obtain ⟨hnew, hnodup⟩ := List.nodup_cons.1 hnodup
    have other (j : Fin 4) (hj : j ∈ ks) := takeLevel_other s k j hk (fun e => hnew (e ▸ hj))
    have hrest := ih (s.takeLevel k) hnodup fun j hj => (other j hj).1.2 (hks j hj)
    rw [List.filter_congr fun j hj => (other j hj).2] at hrest
    have hall := (linesActed_takeLevel s k hk).trans hrest
    cases hq : s.qualifiesNow k
    · simpa [hq] using hall
    · simpa [hq] using hall

/-- The filters afterwards: the level is taken of each of the lines, and of no other. -/
theorem foldl_takeLevel_filter (ks : List (Fin 4)) (s : State) (hnodup : ks.Nodup) (h : ∀ k ∈ ks, s.untaken k)
    (hlen : s.trip.filters.length = 4) (j : Fin 4) :
    (ks.foldl (fun s' k => s'.takeLevel k) s).trip.filter j.val =
      if j ∈ ks then { s.trip.filter j.val with taken := some (s.pins.line j.val) } else s.trip.filter j.val := by
  induction ks generalizing s with
  | nil => rfl
  | cons k ks ih =>
    obtain ⟨hk, hks⟩ := List.forall_mem_cons.1 h
    obtain ⟨hnew, hnodup⟩ := List.nodup_cons.1 hnodup
    have other (j : Fin 4) (hj : j ∈ ks) := takeLevel_other s k j hk (fun e => hnew (e ▸ hj))
    rw [List.foldl_cons, ih (s.takeLevel k) hnodup (fun j hj => (other j hj).1.2 (hks j hj))
      (by rw [takeLevel_filters s k hk, List.length_set, hlen]), takeLevel_line s k j hk]
    by_cases hjk : k = j
    · subst hjk
      simp [hnew, takeLevel_filter_self s k hk hlen]
    · simp [takeLevel_filter_ne s k j hk hjk, Ne.symm hjk]

/-! ### Lines judged together (R148, R154; assumptions 2 and 17) -/

/-- Whichever order is chosen, each of the lines has its turn once. -/
theorem inSomeOrder_eq_foldl (s : State) (lines : List (Fin 4)) (act : Fin 4 → State → State) (hnodup : lines.Nodup) :
    ∃ (order : List (Fin 4)) (choices : Nat), order.Perm lines
      ∧ s.inSomeOrder lines act = order.foldl (fun s' k => act k s') { s with choices := choices } := by
  unfold State.inSomeOrder
  split
  · exact ⟨lines, s.choices, .refl _, rfl⟩
  · refine ⟨_, s.choices + 1, ?_, rfl⟩
    have hround : ∀ first : Fin 4, (linesFrom first).Nodup ∧ ∀ k, k ∈ linesFrom first := by decide
    refine (List.perm_ext_iff_of_nodup ((hround _).1.filter _) hnodup).2 fun k => ?_
    simp [(hround _).2 k]

theorem mem_activatedLines (s : State) (k : Fin 4) : k ∈ s.activatedLines ↔ s.lineActive k.val = true := by
  have : k ∈ [(0 : Fin 4), 1, 2, 3] := by revert k; decide
  simp only [State.activatedLines, List.mem_filter, this, true_and]

theorem mem_dueLines (s : State) (k : Fin 4) : k ∈ s.dueLines ↔ s.lineStable k = true ∧ s.untaken k := by
  have : k ∈ [(0 : Fin 4), 1, 2, 3] := by revert k; decide
  simp only [State.dueLines, List.mem_filter, this, true_and, Bool.and_eq_true, bne_iff_ne, ne_eq, State.untaken]

theorem activatedLines_nodup (s : State) : s.activatedLines.Nodup := List.Nodup.filter _ (by decide)

theorem dueLines_nodup (s : State) : s.dueLines.Nodup := List.Nodup.filter _ (by decide)

/-- Lines that act leave alone what is due to be taken and whether it qualifies, where the filters stand. -/
theorem LinesActed.due {s t : State} {ks : List (Fin 4)} (h : LinesActed s t ks)
    (hfilters : t.trip.filters = s.trip.filters) (k : Fin 4) :
    t.lineStable k = s.lineStable k ∧ (t.untaken k ↔ s.untaken k) ∧ t.qualifiesNow k = s.qualifiesNow k := by
  have hfilter : t.trip.filter k.val = s.trip.filter k.val := by rw [TripUnit.filter, hfilters]; rfl
  have hline : t.pins.line k.val = s.pins.line k.val := by rw [Pins.line, h.breakLines]; rfl
  simp only [State.untaken, State.qualifiesNow, hline, h.active, hfilter, and_self, and_true]
  rw [State.lineStable, h.active, hfilter, State.lineStable]

/-- What the break lines do at a capture that makes a new INPUT_LINES active: the lines that are active, or whose level is
due and qualifies, act; and a level that is due is taken. -/
theorem judgeLines_acted (s : State) :
    ∃ ks, LinesActed s s.judgeLines ks
      ∧ (∀ k, k ∈ ks ↔ s.lineActive k.val = true
          ∨ ((s.lineStable k = true ∧ s.untaken k) ∧ s.qualifiesNow k = true))
      ∧ (s.trip.filters.length = 4 → ∀ k : Fin 4,
          s.judgeLines.trip.filter k.val =
            if k ∈ s.dueLines then { s.trip.filter k.val with taken := some (s.pins.line k.val) }
            else s.trip.filter k.val) := by
  obtain ⟨active, n, hactive, hfold⟩ := inSomeOrder_eq_foldl s s.activatedLines State.lineAct (activatedLines_nodup s)
  obtain ⟨hacted, hfilters⟩ := linesActed_foldl_lineAct active { s with choices := n }
  rw [← hfold] at hacted hfilters
  have hfirst : LinesActed s (s.inSomeOrder s.activatedLines State.lineAct) active :=
    (LinesActed.none s s.trip.filters n).trans hacted
  generalize hu : s.inSomeOrder s.activatedLines State.lineAct = u at hfirst hfilters
  have hjudge : s.judgeLines = u.inSomeOrder u.dueLines State.takeLevel := by rw [State.judgeLines, hu]
  obtain ⟨due, m, hdue, hfold'⟩ := inSomeOrder_eq_foldl u u.dueLines State.takeLevel (dueLines_nodup u)
  have hsame := hfirst.due hfilters
  have hdue_mem (k : Fin 4) : k ∈ due ↔ k ∈ s.dueLines := by
    rw [hdue.mem_iff, mem_dueLines, mem_dueLines, (hsame k).1, (hsame k).2.1]
  have huntaken : ∀ k ∈ due, ({ u with choices := m } : State).untaken k :=
    fun k hk => ((mem_dueLines u k).1 (hdue.mem_iff.1 hk)).2
  have hnodup : due.Nodup := hdue.nodup_iff.2 (dueLines_nodup u)
  have hsecond : LinesActed u s.judgeLines (due.filter u.qualifiesNow) := by
    rw [hjudge, hfold']
    exact (LinesActed.none u u.trip.filters m).trans (linesActed_foldl_takeLevel due _ hnodup huntaken)
  refine ⟨_, hfirst.trans hsecond, fun k => ?_, fun hlen k => ?_⟩
  · rw [List.mem_append, List.mem_filter, hactive.mem_iff, mem_activatedLines, hdue_mem, mem_dueLines, (hsame k).2.2]
  · rw [hjudge, hfold', foldl_takeLevel_filter due { u with choices := m } hnodup huntaken (by rw [hfilters, hlen])]
    simp only [hdue_mem, TripUnit.filter, Pins.line, hfilters, hfirst.breakLines]

/-! ### The pending items applied (R7, R145) -/

section
variable (s : State)

@[simp] theorem applyPending_port :
    s.applyPending.port = { s.port with
      fcsFailed := if s.svc.clearPending then 0 else s.port.fcsFailed
      malformed := if s.svc.clearPending then 0 else s.port.malformed } := by
  cases h : s.svc.clearPending <;> simp [State.applyPending, h]

@[simp] theorem applyPending_sup :
    s.applyPending.sup = { s.sup with lateCount := if s.svc.clearPending then 0 else s.sup.lateCount } := by
  cases h : s.svc.clearPending <;> simp [State.applyPending, h]

@[simp] theorem applyPending_engine :
    s.applyPending.engine = { s.engine with
      counters := if s.svc.clearPending then .cleared s.engine.track.records.length else s.engine.counters } := by
  cases h : s.svc.clearPending <;> simp [State.applyPending, h]

@[simp] theorem applyPending_trip : s.applyPending.trip = s.trip := by
  cases h : s.svc.clearPending <;> simp [State.applyPending, h]

@[simp] theorem applyPending_svc : s.applyPending.svc = s.svc.atCapture := by
  simp [State.applyPending]

@[simp] theorem applyPending_breakLines : s.applyPending.pins.breakLines = s.pins.breakLines := by
  cases h : s.svc.clearPending <;> simp [State.applyPending, h]

theorem applyPending_changesOnly : ChangesOnly s s.applyPending [.port, .sup, .engine, .svc, .pins] := by
  intro b hb
  cases h : s.svc.clearPending <;> cases b <;> simp [Block.Same, State.applyPending, h] at hb ⊢

end

/-- The part once a capture has applied what is pending and judged the break lines (R7 step 1, R154). -/
def State.judged (s : State) : State := if s.svc.pendingSet.comm then s.applyPending.judgeLines else s.applyPending

/-- A capture, from `judged` on: the Supervisor and the engine alone are left to change. -/
theorem capture_eq (s : State) (late : Bool) (number : BitVec 32) (cells : List Cell) (time : Nat) :
    s.capture late number cells time = { s.judged with
      sup := s.judged.sup.captured s.judged.svc.active.comm late number time
      engine := { s.judged.engine with
        samples := sampleSet s.judged.svc.active.comm cells
        flight := some (.begun number s.svc.pendingSet.comm s.judged.svc.node) } } := rfl

/-- The lines that act at a capture: none where no commissioning table becomes active. -/
theorem judged_acted (s : State) : ∃ ks, LinesActed s.applyPending s.judged ks := by
  unfold State.judged
  split
  · obtain ⟨ks, hacted, -⟩ := judgeLines_acted s.applyPending
    exact ⟨ks, hacted⟩
  · exact ⟨[], .none _ _ _⟩

section
variable (s : State) (late : Bool) (number : BitVec 32) (cells : List Cell) (time : Nat)

theorem capture_svc :
    (s.capture late number cells time).svc =
      { s.svc.atCapture with latched := (s.capture late number cells time).svc.latched } := by
  obtain ⟨ks, hacted⟩ := judged_acted s
  rw [capture_eq, ← applyPending_svc]
  exact hacted.svc

theorem capture_port : (s.capture late number cells time).port = s.applyPending.port := by
  obtain ⟨ks, hacted⟩ := judged_acted s
  exact hacted.frame .port (by decide)

theorem capture_sup :
    (s.capture late number cells time).sup =
      s.applyPending.sup.captured s.svc.activated.comm late number time := by
  obtain ⟨ks, hacted⟩ := judged_acted s
  have hsup : s.judged.sup = s.applyPending.sup := hacted.frame .sup (by decide)
  rw [capture_eq]
  simp only [hsup, hacted.active, applyPending_svc]
  rfl

theorem capture_engine :
    (s.capture late number cells time).engine = { s.applyPending.engine with
      samples := sampleSet s.svc.activated.comm cells
      flight := some (.begun number s.svc.pendingSet.comm s.svc.atCapture.node) } := by
  obtain ⟨ks, hacted⟩ := judged_acted s
  have hengine : s.judged.engine = s.applyPending.engine := hacted.frame .engine (by decide)
  have hnode : s.judged.svc.node = s.svc.atCapture.node := by rw [hacted.svc, applyPending_svc]
  rw [capture_eq]
  simp only [hengine, hnode, hacted.active, applyPending_svc]
  rfl

theorem capture_changesOnly :
    ChangesOnly s (s.capture late number cells time) [.sup, .engine, .port, .svc, .trip, .pins, .choices] := by
  obtain ⟨ks, hacted⟩ := judged_acted s
  have hjudged := ((applyPending_changesOnly s).mono (more := [.sup, .engine, .port, .svc, .trip, .pins, .choices])
    (by simp)).trans (hacted.frame.mono (by simp))
  refine hjudged.trans fun b hb => ?_
  rw [capture_eq]
  cases b <;> simp [Block.Same] at hb ⊢

end

/-! ### An arrival (R16 to R21) -/

theorem latchIf_changesOnly (c : Bool) (f : Flag) (s : State) : ChangesOnly s (s.latchIf c f) [.svc, .pins] := by
  intro b hb; cases b <;> simp [Block.Same] at hb ⊢

theorem latchIf_breakLines (c : Bool) (f : Flag) (s : State) : (s.latchIf c f).pins.breakLines = s.pins.breakLines := by
  cases c <;> simp [State.latchIf]

theorem latchIf_svc (c : Bool) (f : Flag) (s : State) :
    (s.latchIf c f).svc = { s.svc with latched := (s.latchIf c f).svc.latched } := by
  cases c <;> simp [State.latchIf]

theorem latchIf_hasFlag (c : Bool) (f fl : Flag) (s : State) :
    hasFlag (s.latchIf c f).svc.latched fl = true ↔ hasFlag s.svc.latched fl = true ∨ (fl = f ∧ c = true) := by
  cases c <;> simp [State.latchIf, hasFlag_or_mask]

/-- A frame that meets no computation in flight, and is neither early nor a duplicate, is captured; a GAP or LATE finding
latches CYCLE_IRREGULAR. -/
theorem arrival_captured (s : State) (number : BitVec 32) (cells : List Cell) (time : Nat)
    (hflight : s.engine.flight = none)
    (harrives : s.sup.anchored = false
      ∨ (s.svc.active.comm.earlyLimit ≤ time - s.sup.lastTime ∧ number ≠ s.sup.lastNumber)) :
    ∃ irr late : Bool, s.arrival number cells time = (s.latchIf irr .cycleIrregular).capture late number cells time
      ∧ (irr = true ↔ irregular s number time)
      ∧ (late = true ↔ s.sup.anchored = true ∧ s.svc.active.comm.lateLimit < time - s.sup.lastTime) := by
  have hverdict : s.sup.verdict s.svc.active.comm s.engine.flight.isSome number time =
      if s.sup.anchored then .capture else .anchoring := by
    rw [hflight, Option.isSome_none]
    rcases harrives with hanchored | ⟨hearly, hnumber⟩
    · simp [Supervisor.verdict, hanchored]
    · cases hanchored : s.sup.anchored <;> simp [Supervisor.verdict, hanchored, hearly, hnumber]
  generalize hv : s.sup.verdict s.svc.active.comm s.engine.flight.isSome number time = v at hverdict
  refine ⟨s.sup.gap v number || s.sup.late s.svc.active.comm v time, s.sup.late s.svc.active.comm v time, ?_, ?_, ?_⟩
  · rw [State.arrival, hv, hverdict]
    cases s.sup.anchored <;> rfl
  · cases hanchored : s.sup.anchored <;> simp [irregular, Supervisor.gap, Supervisor.late, hverdict, hanchored]
  · cases hanchored : s.sup.anchored <;> simp [Supervisor.late, hverdict, hanchored]

/-- Whatever the verdict, an arrival leaves the frames sent, and the link to OUT. -/
theorem arrival_sent (s : State) (number : BitVec 32) (cells : List Cell) (time : Nat) :
    (s.arrival number cells time).sent = s.sent ∧ (s.arrival number cells time).port.outUp = s.port.outUp := by
  have hcapture (u : State) (late : Bool) : (u.capture late number cells time).sent = u.sent
      ∧ (u.capture late number cells time).port.outUp = u.port.outUp :=
    ⟨capture_changesOnly u late number cells time .sent (by decide), by rw [capture_port, applyPending_port]⟩
  unfold State.arrival
  dsimp only
  cases (s.sup.verdict s.svc.active.comm s.engine.flight.isSome number time) <;>
    simp [Verdict.flag, Verdict.captures, hcapture]

/-! ### The bits of an output channel (Tables 12.3 and 12.4) -/

theorem OutputSet.value_fan (o : OutputSet) (z : Nat) (hz : z < 6) : o.value (38 + z) = cellBits (o.fan.getD z 0) := by
  rw [OutputSet.value, if_neg (by omega), if_pos (by omega), Nat.add_sub_cancel_left]

theorem OutputSet.value_valve (o : OutputSet) (r : Nat) (hr : r < 8) :
    o.value (45 + r) = cellBits (o.valve.getD r 0) := by
  rw [OutputSet.value, if_neg (by omega), if_neg (by omega), if_neg (by omega), if_pos (by omega),
    Nat.add_sub_cancel_left]

theorem dryerNumber_eq_code (d : DryerState) : dryerNumber d = d.code := by cases d <;> rfl

theorem nodeNumber_eq_code (n : NodeState) : nodeNumber n = n.code := by cases n <;> rfl

theorem verdictNumber_eq_code (v : GateVerdict) : verdictNumber v = v.code := by cases v <;> rfl

theorem reasonNumber_eq_code (r : Option WasteReason) : reasonNumber r = reasonCode r := by
  cases r with
  | none => rfl
  | some r => cases r <;> rfl

theorem DryerStatus.pack_eq (d : DryerStatus) :
    d.pack = BitVec.ofNat 16 (dryerNumber d.dryer + 2 ^ 3 * nodeNumber d.node + 2 ^ 5 * yesNumber d.latch
      + 2 ^ 6 * yesNumber d.complete) := by
  rw [dryerNumber_eq_code, nodeNumber_eq_code]; rfl

theorem Gate.pack_eq (g : Gate) :
    g.pack = BitVec.ofNat 16 (verdictNumber g.verdict + 2 ^ 2 * g.count + 2 ^ 5 * reasonNumber g.reason) := by
  rw [verdictNumber_eq_code, reasonNumber_eq_code]; rfl

/-- The value written to an output channel's cell, channel by channel. -/
theorem outputBits_outputValue (a : State) (ch : Nat) : outputBits a ch (a.outputValue ch) := by
  refine ⟨?fire, ?fan, ?exhaust, ?valve, ?status, ?gate, ?alert⟩
  case fire => rintro z hz rfl; rw [outputValue_fire a z hz, fireValue_eq]; rfl
  case fan => rintro z hz rfl; rw [outputValue_other a _ (by omega), OutputSet.value_fan _ z hz]; rfl
  case exhaust => rintro rfl; rw [outputValue_other a _ (by omega)]; rfl
  case valve => rintro r hr rfl; rw [outputValue_other a _ (by omega), OutputSet.value_valve _ r hr]; rfl
  case status => rintro rfl; rw [outputValue_other a _ (by omega), ← DryerStatus.pack_eq]; rfl
  case gate => rintro rfl; rw [outputValue_other a _ (by omega), ← Gate.pack_eq]; rfl
  case alert => rintro rfl; rw [outputValue_other a _ (by omega)]; rfl

/-! ### A frame processed (R6) -/

theorem writeCells_length (s : State) (cells : List Cell) : (s.writeCells cells).length = cells.length := by
  simp [State.writeCells]

theorem process_cycle (s : State) (f : LineFrame) (time : Nat) (hkind : f.kind = .cycle) :
    s.process f time =
      (serveLane f.records (s.arrival f.number f.cells time)).1.forward
        ⟨true, 0x89A2, frameBytes ⟨.cycle, f.number, (s.arrival f.number f.cells time).writeCells f.cells,
          (serveLane f.records (s.arrival f.number f.cells time)).2, f.padding⟩⟩ := by
  obtain ⟨kind, number, cells, records, padding⟩ := f
  obtain rfl : kind = .cycle := hkind
  rfl

theorem process_service (s : State) (f : LineFrame) (time : Nat) (hkind : f.kind = .service) :
    s.process f time =
      (serveLane f.records s).1.forward
        ⟨true, 0x89A2, frameBytes ⟨.service, f.number, f.cells, (serveLane f.records s).2, f.padding⟩⟩ := by
  obtain ⟨kind, number, cells, records, padding⟩ := f
  obtain rfl : kind = .service := hkind
  rfl

/-- What the service lane leaves goes out as the link to OUT and the frames sent stood before it. -/
theorem serveLane_forward (records : List Record) (s : State) (frame : EthFrame) :
    (serveLane records s).1.forward frame =
      { (serveLane records s).1 with sent := if s.port.outUp then s.sent ++ [frame] else s.sent } := by
  obtain ⟨hkeeps, -⟩ := serviceKeeps_serveLane records s
  have hport : (serveLane records s).1.port = s.port := hkeeps .port (by decide)
  have hsent : (serveLane records s).1.sent = s.sent := hkeeps .sent (by decide)
  simp only [forward_eq, hport, hsent]

/-- Settles O16: `process` for each kind of frame, with what `writeCell` writes. -/
theorem outputCellsLeaveInTheFrame : Obligations.OutputCellsLeaveInTheFrame := by
  intro s time frame f hreset hup hrun hfcs htype hparse
  have hexec : exec (.frameArrival .ringIn time frame) s = .next ((s.advanceTo time).process f time) := by
    rw [exec_frameArrival_running time frame s hreset hup hrun, receive_lineFrame _ frame time f hfcs htype hparse]
  refine ⟨fun hkind => ?_, fun hkind => ?_⟩
  · intro a served
    obtain ⟨hsent, hout⟩ : a.sent = s.sent ∧ a.port.outUp = s.port.outUp := by
      simpa using arrival_sent (s.advanceTo time) f.number f.cells time
    refine ⟨a.writeCells f.cells, ?_, writeCells_length a f.cells, fun i cell hcell => ?_⟩
    · rw [hexec, process_cycle _ f time hkind, serveLane_forward, hsent, hout]
    · have hleaves := a.writeCells_getElem? f.cells i cell hcell
      refine ⟨hleaves, fun hnone => ?_, fun ch hentry => ⟨_, outputBits_outputValue a ch, ?_⟩⟩
      · rw [hleaves, writeCell_of_no_entry a i cell hnone]
      · rw [hleaves, writeCell_of_entry a i ch cell hentry]
  · have hcells : f.cells = [] := parseFrame_service_cells hparse hkind
    refine ⟨hcells, ?_⟩
    rw [hexec, process_service _ f time hkind, serveLane_forward, hcells, State.advanceTo_sent, State.advanceTo_port]

/-! ### The frame of a captured arrival -/

/-- What a CYCLE frame's service lane and its forwarding leave of its arrival; without records only the frames sent differ. -/
theorem process_cycle_keeps (s : State) (f : LineFrame) (time : Nat) (hkind : f.kind = .cycle) :
    let a := s.arrival f.number f.cells time
    let t := s.process f time
    t.svc.active = a.svc.active ∧ t.sup = a.sup ∧ t.engine = a.engine ∧ t.port = a.port
      ∧ (f.records = [] → ChangesOnly a t [.sent]) := by
  intro a t
  obtain ⟨hkeeps, hactive⟩ := serviceKeeps_serveLane f.records a
  have ht : t = (serveLane f.records a).1.forward _ := process_cycle s f time hkind
  rw [ht, State.forward_svc, State.forward_sup, State.forward_engine, State.forward_port]
  refine ⟨hactive, hkeeps .sup (by decide), hkeeps .engine (by decide), hkeeps .port (by decide), fun hrecords => ?_⟩
  rw [hrecords]
  exact forward_changesOnly a _

theorem advanceTo_sup_kept (s : State) (time : Nat) :
    (s.advanceTo time).sup.anchored = s.sup.anchored ∧ (s.advanceTo time).sup.lastNumber = s.sup.lastNumber
      ∧ (s.advanceTo time).sup.lastTime = s.sup.lastTime ∧ (s.advanceTo time).sup.lateCount = s.sup.lateCount := by
  rcases s.advanceTo_spec time with h | h <;> rw [h] <;> exact ⟨rfl, rfl, rfl, rfl⟩

theorem advanceTo_breakCell (s : State) (time : Nat) : (s.advanceTo time).trip.breakCell = s.trip.breakCell := by
  rcases s.advanceTo_spec time with h | h <;> simp [h]

theorem irregular_advanceTo (s : State) (number : BitVec 32) (time : Nat) :
    irregular (s.advanceTo time) number time ↔ irregular s number time := by
  obtain ⟨hanchored, hnumber, htime, -⟩ := advanceTo_sup_kept s time
  rw [irregular, irregular, hanchored, hnumber, htime, State.advanceTo_svc]

/-! ### The lines at a capture that activates INPUT_LINES (R151 to R154) -/

theorem LineMode.active_iff (mode : LineMode) (taken : Option Bool) :
    mode.active taken = true ↔ (mode = .high ∧ taken = some true) ∨ (mode = .low ∧ taken = some false) := by
  rcases taken with _ | _ | _ <;> cases mode <;> decide

theorem LineMode.qualifies_iff (mode : LineMode) (old : Option Bool) (level : Bool) :
    mode.qualifies old level = true ↔ lineQualifies mode old level := by
  cases mode <;> simp [LineMode.qualifies, lineQualifies]

/-- The lines that act and the levels taken at a capture that makes the commissioning tables active, by the rules as the
statements spell them. -/
theorem capture_lines (s : State) (late : Bool) (number : BitVec 32) (cells : List Cell) (time : Nat)
    (hcomm : s.svc.pendingSet.comm = true) :
    ∃ ks, LinesActed s.applyPending s.judged ks
      ∧ (∀ k : Fin 4, k ∈ ks ↔ lineActs s.svc.shadow.comm s k.val)
      ∧ (s.trip.filters.length = 4 → ∀ k : Fin 4,
          (lineDue s.svc.shadow.comm s k.val →
            (s.capture late number cells time).trip.filter k.val =
              { s.trip.filter k.val with taken := some (s.pins.line k.val) })
          ∧ (¬ lineDue s.svc.shadow.comm s k.val →
            (s.capture late number cells time).trip.filter k.val = s.trip.filter k.val)) := by
  have hm : s.applyPending.svc.active.comm = s.svc.shadow.comm := by
    rw [applyPending_svc]; exact if_pos hcomm
  have hline (k : Fin 4) : s.applyPending.pins.line k.val = s.pins.line k.val := by
    rw [Pins.line, applyPending_breakLines]; rfl
  have hdue (k : Fin 4) : (s.applyPending.lineStable k = true ∧ s.applyPending.untaken k)
      ↔ lineDue s.svc.shadow.comm s k.val := by
    rw [State.lineStable, State.untaken, hm, hline, applyPending_trip, decide_eq_true_eq]; rfl
  obtain ⟨ks, hacted, hks, hfilter⟩ := judgeLines_acted s.applyPending
  have hjudged : s.judged = s.applyPending.judgeLines := if_pos hcomm
  refine ⟨ks, hjudged ▸ hacted, fun k => ?_, fun hlen k => ?_⟩
  · rw [hks, hdue, State.lineActive, State.qualifiesNow, hm, hline, applyPending_trip, LineMode.active_iff,
      LineMode.qualifies_iff, or_assoc]
    rfl
  · have htaken := hfilter (by rw [applyPending_trip, hlen]) k
    rw [hline, applyPending_trip] at htaken
    rw [capture_eq, hjudged]
    exact ⟨fun h => htaken.trans (if_pos ((mem_dueLines _ k).2 ((hdue k).2 h))),
      fun h => htaken.trans (if_neg fun hmem => h ((hdue k).1 ((mem_dueLines _ k).1 hmem)))⟩

/-- What lines that trip make of the trip record (R147, R148). -/
theorem lineTrips_effect (t : TripUnit) (purge : Nat) (ks : List (Fin 4)) (h : ks ≠ []) :
    ∃ j ∈ ks, t.lineTrips purge ks = { t with
      latch := true
      causes := (if t.latch then t.causes else 0) ||| lineCauses ks
      firstCause := if t.latch then t.firstCause else some (.breakLine j)
      tripMark := !t.latch || t.tripMark
      flushMark := !t.latch || t.flushMark
      purgeTimer := some purge
      purgeDone := false } := by
  cases ks with
  | nil => exact absurd rfl h
  | cons k ks => exact ⟨k, List.mem_cons_self, rfl⟩

theorem lineTrips_breakCell (t : TripUnit) (purge : Nat) (ks : List (Fin 4)) :
    (t.lineTrips purge ks).breakCell = t.breakCell := by cases ks <;> rfl

/-- The part at a captured arrival: local time has moved on, and CYCLE_IRREGULAR is latched where the frame is irregular. -/
def State.atArrival (s : State) (time : Nat) (irr : Bool) : State := (s.advanceTo time).latchIf irr .cycleIrregular

section
variable (s : State) (time : Nat) (irr : Bool)

theorem atArrival_trip : (s.atArrival time irr).trip = (s.advanceTo time).trip := by simp [State.atArrival]

theorem atArrival_port : (s.atArrival time irr).port = s.port := by simp [State.atArrival]

theorem atArrival_sup : (s.atArrival time irr).sup = (s.advanceTo time).sup := by simp [State.atArrival]

theorem atArrival_engine : (s.atArrival time irr).engine = s.engine := by simp [State.atArrival]

theorem atArrival_breakLines : (s.atArrival time irr).pins.breakLines = s.pins.breakLines := by
  rw [State.atArrival, latchIf_breakLines, State.advanceTo_pins]

theorem atArrival_svc : (s.atArrival time irr).svc = { s.svc with latched := (s.atArrival time irr).svc.latched } := by
  rw [State.atArrival, latchIf_svc, State.advanceTo_svc]

theorem atArrival_activated : (s.atArrival time irr).svc.activated = s.svc.activated := by rw [atArrival_svc]; rfl

theorem atArrival_hasFlag (fl : Flag) :
    hasFlag (s.atArrival time irr).svc.latched fl = true ↔
      hasFlag s.svc.latched fl = true ∨ (fl = .cycleIrregular ∧ irr = true) := by
  rw [State.atArrival, latchIf_hasFlag, State.advanceTo_svc]

theorem atArrival_lineDue (m : Commissioning) (k : Nat) :
    lineDue m (s.atArrival time irr) k ↔ lineDue m (s.advanceTo time) k := by
  rw [lineDue, lineDue, atArrival_trip, atArrival_breakLines, State.advanceTo_pins]

theorem atArrival_lineActs (m : Commissioning) (k : Nat) :
    lineActs m (s.atArrival time irr) k ↔ lineActs m (s.advanceTo time) k := by
  rw [lineActs, lineActs, atArrival_lineDue, atArrival_trip, atArrival_breakLines, State.advanceTo_pins]

end

/-- A captured frame: the capture of the part at its arrival, and what of it the service lane and the forwarding leave. -/
theorem exec_captured (s : State) (time : Nat) (frame : EthFrame) (f : LineFrame) (hreset : s.pins.resetN = true)
    (hup : s.port.inUp = true) (hrun : s.svc.node ≠ .loading) (hfcs : frame.fcsOk = true)
    (htype : frame.etherType = 0x89A2) (hparse : parseFrame frame.payload = some f) (hkind : f.kind = .cycle)
    (hflight : s.engine.flight = none)
    (harrives : s.sup.anchored = false
      ∨ (s.svc.active.comm.earlyLimit ≤ time - s.sup.lastTime ∧ f.number ≠ s.sup.lastNumber)) :
    ∃ (irr late : Bool) (t : State), exec (.frameArrival .ringIn time frame) s = .next t
      ∧ (irr = true ↔ irregular s f.number time)
      ∧ (late = true ↔ s.sup.anchored = true ∧ s.svc.active.comm.lateLimit < time - s.sup.lastTime)
      ∧ let c := (s.atArrival time irr).capture late f.number f.cells time
        t.svc.active = c.svc.active ∧ t.sup = c.sup ∧ t.engine = c.engine ∧ t.port = c.port
          ∧ (f.records = [] → ChangesOnly c t [.sent]) := by
  obtain ⟨hanchored, hnumber, htime, -⟩ := advanceTo_sup_kept s time
  obtain ⟨irr, late, harrival, hirr, hlate⟩ := arrival_captured (s.advanceTo time) f.number f.cells time
    (by rw [State.advanceTo_engine, hflight]) (by rwa [hanchored, hnumber, htime, State.advanceTo_svc])
  have hkeeps := process_cycle_keeps (s.advanceTo time) f time hkind
  rw [harrival] at hkeeps
  rw [hanchored, htime, State.advanceTo_svc] at hlate
  refine ⟨irr, late, _, ?_, hirr.trans (irregular_advanceTo s f.number time), hlate, hkeeps⟩
  rw [exec_frameArrival_running time frame s hreset hup hrun, receive_lineFrame _ frame time f hfcs htype hparse]

/-- The Supervisor at a captured arrival (R22). -/
theorem captured_sup (s : State) (time : Nat) (irr late : Bool) (number : BitVec 32) (cells : List Cell) :
    ((s.atArrival time irr).capture late number cells time).sup =
      { anchored := true
        lastNumber := number
        lastTime := time
        warnTimer := some s.svc.activated.comm.warnTime
        lossTimer := some s.svc.activated.comm.lossTime
        linkWarn := false
        lateCount := (if s.svc.clearPending then 0 else s.sup.lateCount) + (if late then 1 else 0) } := by
  obtain ⟨-, -, -, hcount⟩ := advanceTo_sup_kept s time
  rw [capture_sup, atArrival_activated, applyPending_sup, atArrival_sup, hcount, atArrival_svc]
  cases late <;> simp [Supervisor.captured]

/-- The engine at a captured arrival (R8, R26, R145). -/
theorem captured_engine (s : State) (time : Nat) (irr late : Bool) (number : BitVec 32) (cells : List Cell) :
    ((s.atArrival time irr).capture late number cells time).engine =
      { s.engine with
        samples := sampleSet s.svc.activated.comm cells
        counters :=
          if s.svc.clearPending then
            ⟨BitVec.ofNat 32 s.engine.track.records.length, 0, 0, [0, 0, 0, 0, 0, 0, 0, 0, 0, 0]⟩
          else s.engine.counters
        flight := some ⟨.speed, number, s.svc.pendingSet.comm,
          if s.svc.pendingSet.comm then .operate else s.svc.node, false, []⟩ } := by
  rw [capture_engine, atArrival_activated, applyPending_engine, atArrival_engine, atArrival_svc]
  rfl

/-- The Service Handler at a captured arrival (R7, R165). -/
theorem captured_svc (s : State) (time : Nat) (irr late : Bool) (number : BitVec 32) (cells : List Cell) :
    ((s.atArrival time irr).capture late number cells time).svc =
      { s.svc with
        active := s.svc.activated
        node := if s.svc.pendingSet.comm then .operate else s.svc.node
        defaultsActive := s.svc.defaultsActive && !s.svc.pendingSet.comm
        pendingSet := .empty
        clearPending := false
        latched := ((s.atArrival time irr).capture late number cells time).svc.latched } := by
  rw [capture_svc, atArrival_svc]
  rfl

/-- A captured arrival without an activation of commissioning tables: no line is judged. -/
theorem captured_without_activation (s : State) (time : Nat) (irr late : Bool) (number : BitVec 32) (cells : List Cell)
    (hcomm : s.svc.pendingSet.comm = false) :
    ((s.atArrival time irr).capture late number cells time).trip = (s.advanceTo time).trip
      ∧ ∀ fl : Flag, hasFlag ((s.atArrival time irr).capture late number cells time).svc.latched fl = true ↔
          hasFlag s.svc.latched fl = true ∨ (fl = .cycleIrregular ∧ irr = true) := by
  have hjudged : (s.atArrival time irr).judged = (s.atArrival time irr).applyPending := by
    rw [State.judged, atArrival_svc]; exact if_neg (by simp [hcomm])
  refine ⟨?_, fun fl => ?_⟩
  · rw [capture_eq, hjudged, applyPending_trip, atArrival_trip]
  · rw [capture_eq, hjudged, applyPending_svc, ← atArrival_hasFlag]
    rfl

/-- A captured arrival that activates commissioning tables: the lines `ks` act, and the levels that are due are taken. -/
theorem captured_with_activation (s : State) (time : Nat) (irr late : Bool) (number : BitVec 32) (cells : List Cell)
    (hcomm : s.svc.pendingSet.comm = true) :
    let m := s.svc.shadow.comm
    let u := s.advanceTo time
    let c := (s.atArrival time irr).capture late number cells time
    ∃ ks : List (Fin 4), (∀ k, k ∈ ks ↔ lineActs m u k.val)
      ∧ (∃ fs, c.trip = { u.trip.lineTrips m.purgeTime (m.tripping ks) with filters := fs })
      ∧ (∀ fl : Flag, hasFlag c.svc.latched fl = true ↔
          (hasFlag s.svc.latched fl = true ∨ (fl = .cycleIrregular ∧ irr = true))
            ∨ (fl = .trip ∧ ∃ k ∈ ks, m.lineAction k.val = .trip)
            ∨ (fl = .notice ∧ ∃ k ∈ ks, m.lineAction k.val = .notice))
      ∧ (s.trip.filters.length = 4 → ∀ k : Fin 4,
          (lineDue m u k.val → c.trip.filter k.val =
              { u.trip.filter k.val with taken := some (s.pins.line k.val) })
          ∧ (¬ lineDue m u k.val → c.trip.filter k.val = u.trip.filter k.val)) := by
  intro m u c
  generalize hb : s.atArrival time irr = b
  have hbcomm : b.svc.pendingSet.comm = true := by rw [← hb, atArrival_svc]; exact hcomm
  have hbm : b.svc.shadow.comm = m := by rw [← hb, atArrival_svc]
  have hm : b.applyPending.svc.active.comm = m := by rw [applyPending_svc, ← hbm]; exact if_pos hbcomm
  have hblen : b.trip.filters.length = s.trip.filters.length := by
    rw [← hb, atArrival_trip]
    rcases s.advanceTo_spec time with h | h <;> rw [h]
    exact List.length_map _
  obtain ⟨ks, hacted, hks, hfilter⟩ := capture_lines b late number cells time hbcomm
  have hc : c = b.capture late number cells time := by rw [← hb]
  have htrip := hacted.trip
  have hlatched := hacted.latched
  rw [hm, applyPending_trip] at htrip
  simp only [hm] at hlatched
  rw [applyPending_svc] at hlatched
  rw [hbm, hblen] at hfilter
  rw [hbm] at hks
  subst hb
  simp only [atArrival_lineActs] at hks
  rw [atArrival_trip] at htrip
  simp only [atArrival_lineDue, atArrival_trip, Pins.line, atArrival_breakLines] at hfilter
  exact ⟨ks, hks, ⟨_, htrip⟩, fun fl => (hlatched fl).trans (or_congr_left (atArrival_hasFlag s time irr fl)), hfilter⟩

/-- The causes that lines leave, by the lines' own numbers. -/
theorem lineCauses_getLsbD_iff (ks : List (Fin 4)) (trips : Nat → Prop)
    (hks : ∀ k : Fin 4, k ∈ ks ↔ trips k.val) (b : Nat) : (lineCauses ks).getLsbD b = true ↔ b < 4 ∧ trips b := by
  rw [lineCauses_getLsbD]
  constructor
  · rintro ⟨k, hk, rfl⟩; exact ⟨k.isLt, (hks k).1 hk⟩
  · rintro ⟨hlt, hb⟩; exact ⟨⟨b, hlt⟩, (hks _).2 hb, rfl⟩

/-- The trip record that the lines which trip leave, where one does (R147, R148). -/
theorem trip_of_lineTrips (t : TripUnit) (purge : Nat) (ks : List (Fin 4)) (fs : List LineFilter) (trips : Nat → Prop)
    (hks : ∀ k : Fin 4, k ∈ ks ↔ trips k.val) (k : Nat) (hlt : k < 4) (htrips : trips k) :
    let t' : TripUnit := { t.lineTrips purge ks with filters := fs }
    t'.latch = true ∧ t'.causes.getLsbD k = true
      ∧ t'.purgeTimer = some purge ∧ t'.purgeDone = false
      ∧ t'.tripMark = (!t.latch || t.tripMark)
      ∧ t'.flushMark = (!t.latch || t.flushMark)
      ∧ (t.latch = true → t'.firstCause = t.firstCause)
      ∧ (t.latch = false → ∃ j : Fin 4, trips j ∧ t'.firstCause = some (.breakLine j))
      ∧ ∀ b, t'.causes.getLsbD b = true ↔ (t.latch = true ∧ t.causes.getLsbD b = true) ∨ (b < 4 ∧ trips b) := by
  have hcauses := lineCauses_getLsbD_iff ks trips hks
  have hmem : (⟨k, hlt⟩ : Fin 4) ∈ ks := (hks _).2 htrips
  obtain ⟨j, hj, heffect⟩ := lineTrips_effect t purge ks (List.ne_nil_of_mem hmem)
  simp only [heffect, BitVec.getLsbD_or, Bool.or_eq_true, hcauses]
  refine ⟨trivial, .inr ⟨hlt, htrips⟩, trivial, trivial, trivial, trivial, fun h => if_pos h,
    fun h => ⟨j, (hks j).1 hj, by simp [h]⟩, fun b => ?_⟩
  cases t.latch <;> simp

/-- Settles O14: a captured arrival, field by field, and at an activation the lines that act. -/
theorem captureAppliesThePending : Obligations.CaptureAppliesThePending := by
  intro s time frame f hreset hup hrun hfcs htype hparse hkind hflight harrives
  obtain ⟨irr, late, t, hexec, hirr, hlate, hactive, hsup, hengine, hport, hrecords⟩ :=
    exec_captured s time frame f hreset hup hrun hfcs htype hparse hkind hflight harrives
  have hsvc := captured_svc s time irr late f.number f.cells
  have hactivated : t.svc.active = s.svc.activated := by rw [hactive, hsvc]
  refine ⟨t, hexec, by rw [hactivated]; rfl, by rw [hactivated]; rfl, by rw [hactivated]; rfl, by rw [hactivated]; rfl,
    by rw [hactivated]; rfl, ?sup, ?engine, ?port, fun hnone => ?alone⟩
  case sup => rw [hsup, captured_sup, hactivated]; simp only [hlate]
  case engine => rw [hengine, captured_engine, hactivated]
  case port => rw [hport, capture_port, applyPending_port, atArrival_port, atArrival_svc]
  case alone =>
    have hframe := hrecords hnone
    have htsvc : t.svc = ((s.atArrival time irr).capture late f.number f.cells time).svc := hframe .svc (by decide)
    have httrip : t.trip = ((s.atArrival time irr).capture late f.number f.cells time).trip := hframe .trip (by decide)
    refine ⟨?svc, ?frame, fun hcomm => ?without, fun hcomm hlen => ?activation⟩
    case svc => rw [hactivated, htsvc]; exact hsvc
    case frame =>
      have harrival : ChangesOnly (s.advanceTo time) (s.atArrival time irr) [.svc, .pins] := latchIf_changesOnly _ _ _
      exact (harrival.mono (by simp)).trans (((capture_changesOnly _ late f.number f.cells time).mono (by simp)).trans
        (hframe.mono (by simp)))
    case without =>
      obtain ⟨htrip, hflags⟩ := captured_without_activation s time irr late f.number f.cells hcomm
      rw [httrip, htsvc]
      exact ⟨htrip, fun fl => (hflags fl).trans (by rw [hirr])⟩
    case activation =>
      intro m u trips
      obtain ⟨ks, hks, ⟨fs, htrip⟩, hflags, hfilter⟩ :=
        captured_with_activation s time irr late f.number f.cells hcomm
      have hmem (k : Fin 4) : k ∈ m.tripping ks ↔ trips k.val := by rw [mem_tripping, hks]
      rw [← httrip] at htrip hfilter
      rw [← htsvc] at hflags
      refine ⟨fun k hk => ?_, fun hquiet => ?_, fun k hk hk' => ?_, ?_, fun fl => ?_⟩
      · obtain ⟨hdue, hundue⟩ := hfilter hlen ⟨k, hk⟩
        refine ⟨fun h => by rw [hdue h]; rfl, fun h => by rw [hundue h]; exact State.advanceTo_taken s time k, ?_⟩
        by_cases h : lineDue m u k
        · rw [hdue h]
        · rw [hundue h]
      · have hnil : m.tripping ks = [] :=
          List.eq_nil_iff_forall_not_mem.2 fun k hk => hquiet k.val k.isLt ((hmem k).1 hk)
        rw [htrip, hnil]; rfl
      · have heffect := trip_of_lineTrips u.trip m.purgeTime (m.tripping ks) fs trips hmem k hk hk'
        rw [htrip]
        simpa only [u, State.advanceTo_latch, State.advanceTo_tripMark, State.advanceTo_flushMark,
          State.advanceTo_firstCause, State.advanceTo_causes] using heffect
      · rw [htrip]
        exact (lineTrips_breakCell _ _ _).trans (advanceTo_breakCell s time)
      · rw [hflags, hirr, or_assoc]
        simp only [hks, Fin.exists_iff, exists_prop, trips, u, m]

end Sys2Proof.Machine
end

section
/-!
SUPPORT. Proofs about the Cycle Supervisor: local time as it passes, the arrivals that are not captured, the expiry of the
warn and the loss timer, and the rest in which LOADING and CONFIG hold the part.
-/
namespace Sys2Proof.Machine

/-! ### Local time (R15) -/

theorem advanceTo_changesOnly (s : State) (time : Nat) :
    ChangesOnly s (s.advanceTo time) [.localTime, .sup, .trip] := by
  intro b hb; cases b <;> simp [Block.Same] at hb ⊢

/-- Settles O3: time stands while LOADING, and otherwise `elapse` lets pass what separates it from `time`. -/
theorem localTimePasses : Obligations.LocalTimePasses := by
  intro s time
  refine ⟨advanceTo_changesOnly s time, s.advanceTo_loading time, fun hrun => ?_⟩
  rw [s.advanceTo_running time hrun]
  have htime : s.localTime + (time - s.localTime) = max s.localTime time := by omega
  exact ⟨htime, rfl, rfl⟩

/-! ### Arrivals that are not captured (R18 to R20) -/

section
variable {s : State} {number : BitVec 32} {cells : List Cell} {time : Nat}

theorem arrival_early (hv : s.sup.verdict s.svc.active.comm s.engine.flight.isSome number time = .early) :
    s.arrival number cells time = s.latchFlag .cycleIrregular := by
  rw [State.arrival, hv]; rfl

theorem arrival_duplicate (hv : s.sup.verdict s.svc.active.comm s.engine.flight.isSome number time = .duplicate) :
    s.arrival number cells time = s := by
  rw [State.arrival, hv]; rfl

theorem arrival_overrun (hv : s.sup.verdict s.svc.active.comm s.engine.flight.isSome number time = .overrun) :
    s.arrival number cells time = s.latchFlag .overrun := by
  rw [State.arrival, hv]; rfl

end

section
variable {p : Supervisor} {c : Commissioning} {inFlight : Bool} {n : BitVec 32} {time : Nat}

theorem verdict_early (hanchored : p.anchored = true) (hearly : time - p.lastTime < c.earlyLimit) :
    p.verdict c inFlight n time = .early := by
  simp [Supervisor.verdict, hanchored, hearly]

theorem verdict_duplicate (hanchored : p.anchored = true) (hearly : c.earlyLimit ≤ time - p.lastTime)
    (hnumber : n = p.lastNumber) : p.verdict c inFlight n time = .duplicate := by
  simp [Supervisor.verdict, hanchored, hearly, hnumber]

theorem verdict_overrun
    (harrives : p.anchored = false ∨ (c.earlyLimit ≤ time - p.lastTime ∧ n ≠ p.lastNumber)) :
    p.verdict c true n time = .overrun := by
  rcases harrives with hanchored | ⟨hearly, hnumber⟩
  · simp [Supervisor.verdict, hanchored]
  · cases hanchored : p.anchored <;> simp [Supervisor.verdict, hanchored, hearly, hnumber]

end

/-- An arrival that is early, a duplicate or an overrun, with the flags it latches (R18 to R20). -/
def Uncaptured (s : State) (number : BitVec 32) (time : Nat) (flag : BitVec 16) : Prop :=
  (s.sup.anchored = true ∧ time - s.sup.lastTime < s.svc.active.comm.earlyLimit ∧ flag = Flag.cycleIrregular.mask)
    ∨ (s.sup.anchored = true ∧ s.svc.active.comm.earlyLimit ≤ time - s.sup.lastTime ∧ number = s.sup.lastNumber
        ∧ flag = 0)
    ∨ (s.engine.flight.isSome = true
        ∧ (s.sup.anchored = false
            ∨ (s.svc.active.comm.earlyLimit ≤ time - s.sup.lastTime ∧ number ≠ s.sup.lastNumber))
        ∧ flag = Flag.overrun.mask)

theorem uncaptured_advanceTo {s : State} {number : BitVec 32} {time : Nat} {flag : BitVec 16} :
    Uncaptured (s.advanceTo time) number time flag ↔ Uncaptured s number time flag := by
  obtain ⟨hanchored, hnumber, htime, -⟩ := advanceTo_sup_kept s time
  simp only [Uncaptured, hanchored, hnumber, htime, State.advanceTo_svc, State.advanceTo_engine]

/-- An arrival that is not captured latches its flag, and ALERT follows; nothing else happens. -/
theorem arrival_uncaptured {s : State} {number : BitVec 32} {time : Nat} {flag : BitVec 16}
    (h : Uncaptured s number time flag) (cells : List Cell) :
    ∃ pins, s.arrival number cells time =
      { s with svc := { s.svc with latched := s.svc.latched ||| flag }, pins := pins } := by
  rcases h with ⟨hanchored, hearly, rfl⟩ | ⟨hanchored, hearly, hnumber, rfl⟩ | ⟨hflight, harrives, rfl⟩
  · exact ⟨_, arrival_early (verdict_early hanchored hearly)⟩
  · refine ⟨s.pins, ?_⟩
    rw [arrival_duplicate (verdict_duplicate hanchored hearly hnumber), BitVec.ofNat_eq_ofNat, BitVec.or_zero]
  · exact ⟨_, arrival_overrun (by rw [hflight]; exact verdict_overrun harrives)⟩

/-- Settles O13: the arrival latches its flag, and the lane and the forwarding leave the rest. -/
theorem uncapturedArrivals : Obligations.UncapturedArrivals := by
  intro s time frame f flag hreset hup hrun hfcs htype hparse hkind huncaptured
  obtain ⟨pins, harrival⟩ :=
    arrival_uncaptured (uncaptured_advanceTo.2 (show Uncaptured s f.number time flag from huncaptured)) f.cells
  obtain ⟨hactive, hsup, hengine, hport, hrecords⟩ := process_cycle_keeps (s.advanceTo time) f time hkind
  rw [harrival] at hactive hsup hengine hport hrecords
  refine ⟨(s.advanceTo time).process f time, ?_, ?_, hsup, ?_, ?_, fun hnone => ?_⟩
  · rw [exec_frameArrival_running time frame s hreset hup hrun, receive_lineFrame _ frame time f hfcs htype hparse]
  · exact hengine.trans (State.advanceTo_engine s time)
  · exact hport.trans (State.advanceTo_port s time)
  · rw [hactive, State.advanceTo_svc]
  · have hframe := hrecords hnone
    have hsvc := hframe .svc (by decide)
    have hnv := hframe .nv (by decide)
    rw [Block.Same, State.advanceTo_svc] at hsvc
    rw [Block.Same, State.advanceTo_nv] at hnv
    exact ⟨hsvc, hframe .trip (by decide), hnv⟩

/-! ### Silence (R23, R24) -/

theorem exec_warnExpiry (time : Nat) (s : State) :
    exec (.warnExpiry time) s =
      .next (if timerDue (s.advanceTo time).sup.warnTimer then takeWarnExpiry (s.advanceTo time) else s) := rfl

theorem exec_lossExpiry (time : Nat) (s : State) :
    exec (.lossExpiry time) s =
      .next (if timerDue (s.advanceTo time).sup.lossTimer then takeLossExpiry (s.advanceTo time) else s) := rfl

theorem exec_purgeExpiry (time : Nat) (s : State) :
    exec (.purgeExpiry time) s =
      .next (if timerDue (s.advanceTo time).trip.purgeTimer then
        { s.advanceTo time with trip := { (s.advanceTo time).trip with purgeTimer := none, purgeDone := true } }
      else s) := rfl

@[simp] theorem timerDue_iff (t : Option Nat) : timerDue t = true ↔ t = some 0 := by simp [timerDue]

/-- A timer whose whole time passes is due. -/
theorem timerDue_elapsed {t : Option Nat} {w dt : Nat} (ht : t = some w) (hdue : w ≤ dt) :
    timerDue (t.map (· - dt)) = true := by
  simp [ht, hdue]

/-- A timer that is stopped, or has more time left than passes, is not due, whether the time passes or not. -/
theorem not_timerDue_left {t : Option Nat} {dt : Nat} (hleft : ∀ w, t = some w → dt < w) :
    ¬ timerDue t = true ∧ ¬ timerDue (t.map (· - dt)) = true := by
  cases t with
  | none => simp
  | some w =>
    have hw : dt < w := hleft w rfl
    simp only [timerDue_iff, Option.map_some, Option.some.injEq]
    omega

theorem tripArrives_causes (c : Cause) (s : State) :
    (s.tripArrives c).trip.causes = if s.trip.latch then s.trip.causes ||| c.mask else c.mask := by
  cases h : s.trip.latch
  · rw [State.tripArrives_clear c s h]; rfl
  · rw [State.tripArrives_set c s h]; rfl

theorem tripArrives_firstCause (c : Cause) (s : State) :
    (s.tripArrives c).trip.firstCause = if s.trip.latch then s.trip.firstCause else some c := by
  cases h : s.trip.latch
  · rw [State.tripArrives_clear c s h]; rfl
  · rw [State.tripArrives_set c s h]; rfl

theorem takeWarnExpiry_changesOnly (s : State) : ChangesOnly s (takeWarnExpiry s) [.sup, .svc, .pins] := by
  intro b hb; cases b <;> simp [Block.Same, takeWarnExpiry] at hb ⊢

theorem takeLossExpiry_changesOnly (s : State) : ChangesOnly s (takeLossExpiry s) [.sup, .trip, .svc, .pins] := by
  intro b hb; cases b <;> simp [Block.Same, takeLossExpiry] at hb ⊢

/-- Settles O19: a timer that is due is taken, the loss by a trip with cause LINK, and one that is not is left. -/
theorem silenceWarnsThenTrips : Obligations.SilenceWarnsThenTrips := by
  refine ⟨fun s time w hrun hw hdue => ?warn, fun s time w hrun hw hdue => ?loss,
    fun s time => ⟨fun h => ?_, fun h => ?_⟩⟩
  case warn =>
    have hexpires : timerDue (s.advanceTo time).sup.warnTimer = true := by
      rw [s.advanceTo_running time hrun]; exact timerDue_elapsed hw hdue
    refine ⟨takeWarnExpiry (s.advanceTo time), ?_, rfl, ?_, ?_, takeWarnExpiry_changesOnly _⟩
    · rw [exec_warnExpiry, if_pos hexpires]
    · simp [takeWarnExpiry, Flag.mask, Flag.bit]
    · simp [takeWarnExpiry, Flag.mask, Flag.bit]
  case loss =>
    have hexpires : timerDue (s.advanceTo time).sup.lossTimer = true := by
      rw [s.advanceTo_running time hrun]; exact timerDue_elapsed hw hdue
    refine ⟨takeLossExpiry (s.advanceTo time), ?_, ?_, State.tripArrives_latch _ _, ?_, ?_, ?_,
      State.tripArrives_purgeDone _ _, ?_, takeLossExpiry_changesOnly _⟩
    · rw [exec_lossExpiry, if_pos hexpires]
    · rw [takeLossExpiry, State.tripArrives_sup, s.advanceTo_running time hrun]; rfl
    · rw [takeLossExpiry, tripArrives_causes, State.advanceTo_latch, State.advanceTo_causes]; rfl
    · rw [takeLossExpiry, tripArrives_firstCause, State.advanceTo_latch, State.advanceTo_firstCause]
    · simp [takeLossExpiry]
    · simp [takeLossExpiry]
  · rw [exec_warnExpiry, if_neg]
    rcases s.advanceTo_spec time with hs | hs <;> rw [hs]
    exacts [(not_timerDue_left h).1, (not_timerDue_left h).2]
  · rw [exec_lossExpiry, if_neg]
    rcases s.advanceTo_spec time with hs | hs <;> rw [hs]
    exacts [(not_timerDue_left h).1, (not_timerDue_left h).2]

/-! ### The rest of LOADING and CONFIG (R15, R42, R60, R146, R169) -/

/-- A LOADING part holds its reset values, and a CONFIG node's dryer is COLD. -/
def State.AtRest (s : State) : Prop := s.LoadingReset ∧ s.ConfigCold

/-- The part runs, its dryer COLD if the node is CONFIG. -/
def State.RunsAtRest (s : State) : Prop := s.svc.node ≠ .loading ∧ s.ConfigCold

theorem State.RunsAtRest.atRest {s : State} (h : s.RunsAtRest) : s.AtRest := ⟨fun hload => absurd hload h.1, h.2⟩

theorem State.AtRest.running {s : State} (h : s.AtRest) (hrun : s.svc.node ≠ .loading) : s.RunsAtRest := ⟨hrun, h.2⟩

/-- Where the blocks hold their reset values, the dryer is COLD among them. -/
theorem atRest_of_reset {t : State} (hsup : t.sup = .reset) (hengine : t.engine = .reset) (htrip : t.trip = .reset) :
    t.AtRest :=
  ⟨fun _ => ⟨hsup, hengine, htrip⟩, fun _ => by rw [hengine]; rfl⟩

/-- Of a running part the node state and the dryer alone count. -/
theorem State.RunsAtRest.of_kept {s t : State} (h : s.RunsAtRest) (hnode : t.svc.node = s.svc.node)
    (hdryer : t.engine.dryer = s.engine.dryer) : t.RunsAtRest := by
  unfold State.RunsAtRest State.ConfigCold
  rw [hnode, hdryer]
  exact h

/-- What changes nothing but the ports and the frames sent. -/
theorem State.AtRest.of_changesOnly {s t : State} (h : s.AtRest) (hframe : ChangesOnly s t [.port, .pins, .sent]) :
    t.AtRest := by
  have hsup : t.sup = s.sup := hframe .sup (by decide)
  have hengine : t.engine = s.engine := hframe .engine (by decide)
  have htrip : t.trip = s.trip := hframe .trip (by decide)
  have hsvc : t.svc = s.svc := hframe .svc (by decide)
  unfold State.AtRest State.LoadingReset State.ConfigCold
  rw [hsup, hengine, htrip, hsvc]
  exact h

theorem State.RunsAtRest.advanceTo {s : State} (h : s.RunsAtRest) (time : Nat) : (s.advanceTo time).RunsAtRest :=
  h.of_kept (by simp) (by simp)

/-- What a part does once it runs, where LOADING makes it stand still. -/
theorem State.AtRest.of_cases {s t : State} (h : s.AtRest) (hload : s.svc.node = .loading → t.AtRest)
    (hrun : s.RunsAtRest → t.AtRest) : t.AtRest := by
  by_cases hnode : s.svc.node = .loading
  exacts [hload hnode, hrun (h.running hnode)]

theorem State.AtRest.advanceTo {s : State} (h : s.AtRest) (time : Nat) : (s.advanceTo time).AtRest :=
  h.of_cases (fun hload => by rwa [s.advanceTo_loading time hload]) fun hrun => (hrun.advanceTo time).atRest

/-! #### Resets and load -/

theorem atRest_resetBlocks (s : State) (causes : BitVec 3) : (s.resetBlocks causes).AtRest :=
  atRest_of_reset rfl rfl rfl

theorem takeLoadEnd_node (s : State) : (takeLoadEnd s).svc.node = if s.nv.marker then .operate else .config := by
  simp [takeLoadEnd, Handler.loaded]

theorem takeLoadEnd_engine (s : State) : (takeLoadEnd s).engine = s.engine := by
  simp [takeLoadEnd]

/-- The end of load leaves the dryer of the reset, which is COLD. -/
theorem State.AtRest.loadEnd {s : State} (h : s.AtRest) (hload : s.svc.node = .loading) : (takeLoadEnd s).AtRest := by
  obtain ⟨-, hengine, -⟩ := h.1 hload
  refine State.RunsAtRest.atRest ⟨?_, fun _ => by rw [takeLoadEnd_engine, hengine]; rfl⟩
  rw [takeLoadEnd_node]
  split <;> decide

theorem cutFrame_changesOnly (s : State) (port : Port) (cut : Bool) :
    ChangesOnly s (if cut = true ∧ s.port.link port = true then s.cutFrame port else s) [.port, .pins, .sent] := by
  cases port
  · exact (cutFrame_in s cut).1.mono (by simp)
  · exact (cutFrame_out s cut).1.mono (by simp)

theorem setResetN_port_changesOnly (s : State) (high : Bool) (port : LinePort) :
    ChangesOnly s { s.setResetN high with port := port } [.port, .pins, .sent] := by
  intro b hb; cases b <;> simp [Block.Same] at hb ⊢

/-! #### Service requests: ENTER_CONFIG alone changes the node, and only where the dryer is COLD (R169) -/

section
variable {s : State} {r : Request}

theorem State.RunsAtRest.checked {k : RequestKind} {f : State × Reply} (h : s.RunsAtRest) (hf : f.1.RunsAtRest) :
    (s.checked k r f).1.RunsAtRest := by
  unfold State.checked; split
  exacts [h, hf]

theorem State.RunsAtRest.onTable {f : TableId → State × Reply} (h : s.RunsAtRest) (hf : ∀ t, (f t).1.RunsAtRest) :
    (onTable r s f).1.RunsAtRest := by
  unfold Machine.onTable; split
  exacts [h, hf _]

theorem State.RunsAtRest.toConfig (hcold : s.engine.dryer.state = .cold) : s.toConfig.RunsAtRest :=
  ⟨by simp, fun _ => hcold⟩

theorem State.RunsAtRest.serveEnterConfig (h : s.RunsAtRest) : (serveEnterConfig r s).1.RunsAtRest := by
  refine h.checked ?_
  split_ifs with _ _ hstate
  exacts [h, h, h, .toConfig (not_not.1 hstate)]

/-- Every other request leaves the node state. -/
theorem State.RunsAtRest.serve (h : s.RunsAtRest) (k : RequestKind) : (serve k r s).1.RunsAtRest := by
  cases k with
  | read => exact h.checked (h.onTable fun t => by split <;> exact h)
  | write =>
    refine h.checked (h.onTable fun t => ?_)
    split
    · exact h
    · split
      exacts [h.of_kept rfl rfl, h.of_kept rfl rfl]
  | commit =>
    refine h.checked (h.onTable fun t => ?_)
    split
    · exact h
    · split
      exacts [h, h.of_kept rfl rfl]
  | discard =>
    refine h.checked (h.onTable fun t => ?_)
    split
    exacts [h, h.of_kept rfl rfl]
  | enterConfig => exact h.serveEnterConfig
  | leaveConfig =>
    refine h.checked ?_
    split_ifs
    · exact h
    · exact h
    · exact h
    · split
      exacts [h, h.of_kept rfl rfl]
  | store => refine h.checked ?_; split_ifs; exacts [h, h, h.of_kept rfl rfl]
  | clearLatched => exact h.checked (h.of_kept rfl rfl)
  | clearCauses => exact h.checked (h.of_kept rfl rfl)
  | clearCounters => exact h.checked (h.of_kept rfl rfl)
  | tripReset => refine h.checked ?_; split_ifs; exacts [h, h, h, h.of_kept rfl rfl]
  | testTrip => refine h.checked ?_; split_ifs; exacts [h, h.of_kept (by simp) (by simp)]
  | lineReset => refine h.checked ?_; split_ifs; exacts [h, h.of_kept rfl rfl, h]

end

/-- A request as a command of its own: none is served while LOADING (R161). -/
theorem State.AtRest.request {s : State} (h : s.AtRest) (k : RequestKind) (r : Request) :
    (s.request (serve k r s)).AtRest := by
  unfold State.request; split
  · exact h
  · next hrun => exact ((h.running hrun).serve k).atRest

theorem State.RunsAtRest.serveRecord {s : State} (h : s.RunsAtRest) (r : Record) : (serveRecord r s).1.RunsAtRest := by
  unfold Machine.serveRecord; split
  exacts [h, h.serve _]

theorem State.RunsAtRest.serveLane {s : State} (h : s.RunsAtRest) (records : List Record) :
    (serveLane records s).1.RunsAtRest := by
  induction records generalizing s with
  | nil => exact h
  | cons r rest ih =>
    simp only [Machine.serveLane]
    split
    · split
      exacts [h.serveRecord r, ih (h.serveRecord r)]
    · exact ih h

/-! #### Frames -/

section
variable {s : State} (h : s.RunsAtRest)
include h

theorem State.RunsAtRest.latchFlag (f : Flag) : (s.latchFlag f).RunsAtRest := h.of_kept rfl rfl

theorem State.RunsAtRest.latchIf (c : Bool) (f : Flag) : (s.latchIf c f).RunsAtRest := h.of_kept (by simp) (by simp)

/-- A capture that activates commissioning tables makes the node OPERATE (R7), and no capture moves the dryer. -/
theorem State.RunsAtRest.capture (late : Bool) (number : BitVec 32) (cells : List Cell) (time : Nat) :
    (s.capture late number cells time).RunsAtRest := by
  have hnode : (s.capture late number cells time).svc.node = if s.svc.pendingSet.comm then .operate else s.svc.node := by
    rw [capture_svc]; rfl
  have hdryer : (s.capture late number cells time).engine.dryer = s.engine.dryer := by
    rw [capture_engine, applyPending_engine]
  cases hcomm : s.svc.pendingSet.comm
  · exact h.of_kept (by rw [hnode, hcomm]; rfl) hdryer
  · rw [hcomm, if_pos rfl] at hnode
    exact ⟨by simp [hnode], fun hconfig => by simp [hnode] at hconfig⟩

theorem State.RunsAtRest.arrival (number : BitVec 32) (cells : List Cell) (time : Nat) :
    (s.arrival number cells time).RunsAtRest := by
  cases hv : s.sup.verdict s.svc.active.comm s.engine.flight.isSome number time with
  | anchoring => rw [State.arrival, hv]; exact (h.latchIf _ _).capture _ _ _ _
  | capture => rw [State.arrival, hv]; exact (h.latchIf _ _).capture _ _ _ _
  | early => rw [arrival_early hv]; exact h.latchFlag _
  | duplicate => rw [arrival_duplicate hv]; exact h
  | overrun => rw [arrival_overrun hv]; exact h.latchFlag _

theorem State.RunsAtRest.forward (f : EthFrame) : (s.forward f).RunsAtRest := h.of_kept (by simp) (by simp)

theorem State.RunsAtRest.process (f : LineFrame) (time : Nat) : (s.process f time).RunsAtRest := by
  cases hkind : f.kind with
  | cycle =>
    rw [process_cycle s f time hkind]
    exact ((h.arrival _ _ _).serveLane _).forward _
  | service =>
    rw [process_service s f time hkind]
    exact (h.serveLane _).forward _

theorem State.RunsAtRest.countFcs : s.countFcs.RunsAtRest := h.of_kept rfl rfl

theorem State.RunsAtRest.countMalformed : s.countMalformed.RunsAtRest := h.of_kept rfl rfl

theorem State.RunsAtRest.receive (frame : EthFrame) (time : Nat) : (s.receive frame time).RunsAtRest := by
  unfold State.receive
  split_ifs
  · exact h.countFcs.forward frame
  · exact h.forward frame
  · split
    exacts [h.countMalformed.forward frame, h.process _ time]

end

theorem State.AtRest.frameArrival {s : State} (h : s.AtRest) (port : Port) (time : Nat) (frame : EthFrame) :
    ∃ t, exec (.frameArrival port time frame) s = .next t ∧ t.AtRest := by
  cases port with
  | ringOut => exact ⟨_, rfl, h.advanceTo time⟩
  | ringIn =>
    refine ⟨_, rfl, ?_⟩
    dsimp only
    split_ifs with _ hload
    · exact h
    · exact h.of_changesOnly ((forward_changesOnly s frame).mono (by simp))
    · exact (((h.running hload).advanceTo time).receive frame time).atRest

/-! #### Expiries and break lines -/

/-- An expiry: while LOADING no timer runs, so that none is due. -/
theorem State.AtRest.expiry {s : State} (h : s.AtRest) (time : Nat) (timer : State → Option Nat) (take : State → State)
    (hstopped : ∀ u : State, u.sup = .reset → u.trip = .reset → timer u = none)
    (htake : ∀ u : State, u.RunsAtRest → (take u).RunsAtRest) :
    (if timerDue (timer (s.advanceTo time)) then take (s.advanceTo time) else s).AtRest := by
  refine h.of_cases (fun hload => ?_) fun hrun => ?_
  · obtain ⟨hsup, -, htrip⟩ := h.1 hload
    rw [s.advanceTo_loading time hload, hstopped s hsup htrip, if_neg (by decide)]
    exact h
  · split
    exacts [(htake _ (hrun.advanceTo time)).atRest, h]

theorem State.RunsAtRest.takeLevel {s : State} (h : s.RunsAtRest) (k : Fin 4) : (s.takeLevel k).RunsAtRest := by
  by_cases huntaken : s.untaken k
  · have hacted := linesActed_takeLevel s k huntaken
    have hengine : (s.takeLevel k).engine = s.engine := hacted.frame .engine (by decide)
    exact h.of_kept (by rw [hacted.svc]) (by rw [hengine])
  · rw [State.takeLevel, if_pos (not_not.1 huntaken)]
    exact h

theorem State.AtRest.lineChanged {s : State} (h : s.AtRest) (line : Fin 4) (high : Bool) (time : Nat) :
    (s.lineChanged line high time).AtRest := by
  unfold State.lineChanged
  split_ifs with _ hload
  · exact h
  · exact h
  · have hchanged : ((s.advanceTo time).changeLevel line high).RunsAtRest :=
      ((h.running hload).advanceTo time).of_kept rfl rfl
    dsimp only
    split_ifs
    exacts [(hchanged.takeLevel line).atRest, hchanged.atRest]

theorem State.AtRest.levelTaken {s : State} (h : s.AtRest) (line : Fin 4) (time : Nat) :
    ∃ t, exec (.breakLineLevelTaken line time) s = .next t ∧ t.AtRest := by
  refine ⟨_, rfl, ?_⟩
  split_ifs with hload
  · exact h
  · exact (((h.running hload).advanceTo time).takeLevel line).atRest
  · exact h

/-! #### Stages: none takes place while LOADING, where no computation is in flight (R42) -/

theorem State.AtRest.atStage {s : State} (h : s.AtRest) (stage : Stage) (f : Computation → State)
    (hf : s.RunsAtRest → ∀ c, (f c).AtRest) : (s.atStage stage f).AtRest := by
  rcases s.atStage_spec stage f with heq | ⟨c, hflight, -, heq⟩
  · rw [heq]; exact h
  · have hrun : s.svc.node ≠ .loading := fun hload => by
      obtain ⟨-, hengine, -⟩ := h.1 hload
      rw [hengine] at hflight
      cases hflight
    rw [heq]; exact hf (h.running hrun) c

section
variable {s : State} (h : s.RunsAtRest) (c : Computation)
include h

theorem State.RunsAtRest.speedStage : (takeSpeedStage c s).RunsAtRest :=
  h.of_kept (by simp [takeSpeedStage]) (by simp [takeSpeedStage])

theorem State.RunsAtRest.zoneStage : (takeZoneStage c s).RunsAtRest :=
  h.of_kept (by simp [takeZoneStage]) (by simp [takeZoneStage, State.zoneEngine])

theorem State.RunsAtRest.exhaustStage : (takeExhaustStage c s).RunsAtRest :=
  h.of_kept (by simp [takeExhaustStage]) (by simp [takeExhaustStage, State.exhaustEngine])

theorem State.RunsAtRest.trackStage : (takeTrackStage c s).RunsAtRest := h.of_kept rfl rfl

theorem State.RunsAtRest.chillStage : (takeChillStage c s).RunsAtRest :=
  h.of_kept (by simp [takeChillStage]) (by simp [takeChillStage, State.chillEngine])

theorem State.RunsAtRest.publication : (takePublication c s).RunsAtRest := h.of_kept rfl rfl

end

/-- Row 1 of Table 4.3 comes before every other: the step of a CONFIG node gives COLD (R60). -/
theorem dryerStep_config_cold (d : DryerRec) (request : Sample) (i : DryerInputs) (hconfig : i.node = .config) :
    (d.step request i).1.state = .cold := by
  have hrow : ((d.takeMode request).runTimers i).transition i = .configured := if_pos hconfig
  simp only [DryerRec.step, hrow]
  rfl

theorem takeBreakCell_node (s : State) : (takeBreakCell s).svc.node = s.svc.node := by simp [takeBreakCell]

theorem takeDryerStep_node (c : Computation) (permit : Bool) (s : State) :
    (takeDryerStep c permit s).svc.node = s.svc.node := by
  unfold takeDryerStep
  dsimp only
  split <;> simp [takeBreakCell_node]

theorem takeDryerStep_dryer (c : Computation) (permit : Bool) (s : State) :
    (takeDryerStep c permit s).engine.dryer = (s.dryerOutcome permit).1 := by
  unfold takeDryerStep
  dsimp only
  split <;> simp

theorem State.RunsAtRest.dryerStep {s : State} (h : s.RunsAtRest) (c : Computation) (permit : Bool) :
    (takeDryerStep c permit s).RunsAtRest := by
  unfold State.RunsAtRest State.ConfigCold
  rw [takeDryerStep_node, takeDryerStep_dryer]
  exact ⟨h.1, fun hconfig => dryerStep_config_cold _ _ _ ((takeBreakCell_node s).trans hconfig)⟩

theorem State.AtRest.dryerStepOf {s : State} (h : s.AtRest) (row : Transition) (permit : Bool) (time : Nat) :
    (dryerStepOf row permit time s).AtRest :=
  h.atStage .dryer _ fun hrun c => by
    split
    exacts [((hrun.advanceTo time).dryerStep c permit).atRest, h]

/-! #### Every command -/

/-- Where no STORE is in flight none completes; one that does leaves the node and the engine (R172). -/
theorem State.AtRest.storeCompletion {s : State} (h : s.AtRest) (written : Bool) :
    ∃ t, exec (.storeCompletion written) s = .next t ∧ t.AtRest := by
  refine ⟨_, rfl, ?_⟩
  split
  · exact h
  · cases written <;> exact h

theorem exec_keeps_atRest (c : Instr) (s : State) (h : s.AtRest) : ∃ t, exec c s = .next t ∧ t.AtRest := by
  cases c with
  | powerOn => exact ⟨_, rfl, atRest_resetBlocks _ _⟩
  | localReset cut => exact ⟨_, rfl, atRest_resetBlocks _ _⟩
  | localResetRelease =>
    refine ⟨_, rfl, ?_⟩
    split
    exacts [h, h.of_changesOnly (setResetN_port_changesOnly s true _)]
  | lineResetTakesEffect =>
    refine ⟨_, rfl, ?_⟩
    split
    exacts [atRest_resetBlocks _ _, h]
  | loadEnd =>
    refine ⟨_, rfl, ?_⟩
    split_ifs with hload
    exacts [h.loadEnd hload.1, h]
  | portLinkUp port => exact ⟨_, rfl, h.of_changesOnly ((setLink_changesOnly s port true).mono (by simp))⟩
  | portLinkDown port cut =>
    exact ⟨_, rfl, h.of_changesOnly
      ((cutFrame_changesOnly s port cut).trans ((setLink_changesOnly _ port false).mono (by simp)))⟩
  | frameArrival port time frame => exact h.frameArrival port time frame
  | warnExpiry time =>
    exact ⟨_, exec_warnExpiry time s, h.expiry time (·.sup.warnTimer) takeWarnExpiry
      (fun _ hsup _ => by simp only [hsup]; rfl) fun _ hu => hu.of_kept rfl rfl⟩
  | lossExpiry time =>
    exact ⟨_, exec_lossExpiry time s, h.expiry time (·.sup.lossTimer) takeLossExpiry
      (fun _ hsup _ => by simp only [hsup]; rfl) fun _ hu =>
        hu.of_kept (by simp [takeLossExpiry]) (by simp [takeLossExpiry])⟩
  | purgeExpiry time =>
    exact ⟨_, exec_purgeExpiry time s, h.expiry time (·.trip.purgeTimer)
      (fun u => { u with trip := { u.trip with purgeTimer := none, purgeDone := true } })
      (fun _ _ htrip => by simp only [htrip]; rfl) fun _ hu => hu.of_kept rfl rfl⟩
  | speedStage => exact ⟨_, rfl, h.atStage _ _ fun hrun c => (hrun.speedStage c).atRest⟩
  | speedHoldRunOut =>
    refine ⟨_, rfl, h.atStage _ _ fun hrun c => ?_⟩
    split
    exacts [(hrun.speedStage c).atRest, h]
  | dryerStep time permit =>
    exact ⟨_, rfl, h.atStage _ _ fun hrun c => ((hrun.advanceTo time).dryerStep c permit).atRest⟩
  | permitTimerReached time => exact ⟨_, rfl, h.dryerStepOf _ _ time⟩
  | settleTimerReached time => exact ⟨_, rfl, h.dryerStepOf _ _ time⟩
  | runConfirmReached time => exact ⟨_, rfl, h.dryerStepOf _ _ time⟩
  | holdDelayReached time => exact ⟨_, rfl, h.dryerStepOf _ _ time⟩
  | holdLimitReached time => exact ⟨_, rfl, h.dryerStepOf _ _ time⟩
  | zoneStage time => exact ⟨_, rfl, h.atStage _ _ fun hrun c => ((hrun.advanceTo time).zoneStage c).atRest⟩
  | zoneSensorHoldRunOut zone time =>
    refine ⟨_, rfl, h.atStage _ _ fun hrun c => ?_⟩
    split
    exacts [((hrun.advanceTo time).zoneStage c).atRest, h]
  | exhaustStage time => exact ⟨_, rfl, h.atStage _ _ fun hrun c => ((hrun.advanceTo time).exhaustStage c).atRest⟩
  | lelHoldRunOut time =>
    refine ⟨_, rfl, h.atStage _ _ fun hrun c => ?_⟩
    split
    exacts [((hrun.advanceTo time).exhaustStage c).atRest, h]
  | trackStage => exact ⟨_, rfl, h.atStage _ _ fun hrun c => (hrun.trackStage c).atRest⟩
  | chillStage => exact ⟨_, rfl, h.atStage _ _ fun hrun c => (hrun.chillStage c).atRest⟩
  | chillSensorHoldRunOut =>
    refine ⟨_, rfl, h.atStage _ _ fun hrun c => ?_⟩
    split
    exacts [(hrun.chillStage c).atRest, h]
  | publication => exact ⟨_, rfl, h.atStage _ _ fun hrun c => (hrun.publication c).atRest⟩
  | breakLineLevelChange line high time => exact ⟨_, rfl, h.lineChanged line high time⟩
  | breakLineLevelTaken line time => exact h.levelTaken line time
  | storeCompletion written => exact h.storeCompletion written
  | read r => exact ⟨_, rfl, h.request .read r⟩
  | write r => exact ⟨_, rfl, h.request .write r⟩
  | commit r => exact ⟨_, rfl, h.request .commit r⟩
  | discard r => exact ⟨_, rfl, h.request .discard r⟩
  | enterConfig r => exact ⟨_, rfl, h.request .enterConfig r⟩
  | leaveConfig r => exact ⟨_, rfl, h.request .leaveConfig r⟩
  | store r => exact ⟨_, rfl, h.request .store r⟩
  | clearLatched r => exact ⟨_, rfl, h.request .clearLatched r⟩
  | clearCauses r => exact ⟨_, rfl, h.request .clearCauses r⟩
  | clearCounters r => exact ⟨_, rfl, h.request .clearCounters r⟩
  | tripReset r => exact ⟨_, rfl, h.request .tripReset r⟩
  | testTrip r time => exact ⟨_, rfl, (h.advanceTo time).request .testTrip r⟩
  | lineReset r => exact ⟨_, rfl, h.request .lineReset r⟩

/-- Settles O58: an empty queue idles, and each command keeps the rest. -/
theorem loadingAndConfigStayAtRest : Obligations.LoadingAndConfigStayAtRest := by
  intro s t hload hconfig hstep
  rw [step] at hstep
  split at hstep
  · obtain rfl := Host.Outcome.next.inj hstep
    exact ⟨hload, hconfig⟩
  · next c rest _ =>
    obtain ⟨u, hexec, hrest⟩ := exec_keeps_atRest c { s with pending := rest } ⟨hload, hconfig⟩
    obtain rfl := Host.Outcome.next.inj (hexec.symm.trans hstep)
    exact hrest

end Sys2Proof.Machine
end

section
/-!
SUPPORT. Proofs about the cycle computation: the curves, the speed stage, the publication, and the range of every output
value.
-/
namespace Sys2Proof.Machine

/-! ### Lists with an entry for each index -/

@[simp] theorem tabulate_length {α : Type} (n : Nat) (f : Nat → α) : (tabulate n f).length = n := by simp [tabulate]

theorem forall_mem_tabulate {α : Type} {n : Nat} {f : Nat → α} {P : α → Prop} :
    (∀ x ∈ tabulate n f, P x) ↔ ∀ i < n, P (f i) := by simp [tabulate]

theorem tabulate_getD {α : Type} {n i : Nat} (f : Nat → α) (d : α) (hi : i < n) : (tabulate n f).getD i d = f i := by
  simp [tabulate, hi]

/-! ### Values from 0 to 100.00 % (Table 1.4) -/

theorem percent_zero : Percent 0 := by simp [Percent]

theorem percent_full : Percent 10000 := by simp [Percent]

theorem percent_natCast {n : Nat} (h : n ≤ 10000) : Percent n := ⟨by omega, by omega⟩

/-- A clamp answers one of its bounds, or a value between them. -/
theorem percent_clamp {x a b : Int} (ha : Percent a) (hb : Percent b) : Percent (clamp x a b) := by
  obtain ⟨ha0, ha1⟩ := ha
  obtain ⟨hb0, hb1⟩ := hb
  unfold clamp Percent
  split_ifs <;> omega

theorem percent_min {x y : Int} (hx : Percent x) (hy : Percent y) : Percent (min x y) := by
  rcases min_choice x y with h | h <;> rw [h]
  exacts [hx, hy]

theorem percent_getD {l : List Int} (h : ∀ x ∈ l, Percent x) (i : Nat) : Percent (l.getD i 0) := by
  rw [List.getD_eq_getElem?_getD]
  cases hi : l[i]? with
  | none => exact percent_zero
  | some x => exact h x (List.mem_of_getElem? hi)

/-! ### What accepted tables say of the items that bound an output (R181) -/

/-- The ranges of a zone's nine items, at their place in LIMITS (Table 12.5). -/
theorem limitRanges_zone : ∀ z < 6, ∀ k < 9, limitRanges[19 + 9 * z + k]? = zoneLimitRanges[k]? := by decide

section
variable {c : Commissioning} (h : c.Accepted)
include h

/-- The defaults pass the range checks of LIMITS too, and so every accepted copy does. -/
theorem Commissioning.Accepted.limits_range {i : Nat} {range : Nat × Nat} (hrange : limitRanges[i]? = some range) :
    range.1 ≤ item c.limits i ∧ item c.limits i ≤ range.2 := by
  have hranges : checkRanges c.limits limitRanges limitsOutOfRange = none := by
    rcases h with rfl | h
    · decide
    · have hlimits : checkLimits c.limits = none := (firstSome_eq_none _).1 h _ (by simp)
      exact (firstSome_eq_none _).1 hlimits _ (by simp)
  exact (checkRanges_eq_none _ _ _).1 hranges i range hrange

theorem Commissioning.Accepted.exhaustMin_le : c.exhaustMin ≤ 10000 := (h.limits_range (i := 6) rfl).2

theorem Commissioning.Accepted.standbyExhaust_le : c.standbyExhaust ≤ 10000 := (h.limits_range (i := 7) rfl).2

/-- A zone item that Table 5.8 gives in 0.01 %. -/
theorem Commissioning.Accepted.zoneItem_le {z k : Nat} (hz : z < 6) (hk : zoneLimitRanges[k]? = some (0, 10000)) :
    c.zoneItem z k ≤ 10000 := by
  have hk9 : k < 9 := (List.getElem?_eq_some_iff.1 hk).1
  exact (h.limits_range ((limitRanges_zone z hz k hk9).trans hk)).2

theorem Commissioning.Accepted.chillTuning_range {i : Nat} {range : Nat × Nat}
    (hrange : ([(0, 5000), (0, 5000), (0, 5000), (0, 10000)] ++ repeated 8 [(0, 10000), (0, 10000)])[i]? = some range) :
    item c.chillTuning i ≤ range.2 := by
  have hranges : checkChillTuning c.chillTuning = none := by
    rcases h with rfl | h
    · decide
    · exact (firstSome_eq_none _).1 h _ (by simp)
  exact ((checkRanges_eq_none _ _ _).1 hranges i range hrange).2

theorem Commissioning.Accepted.idleValve_le : c.idleValve ≤ 10000 := h.chillTuning_range (i := 3) rfl

theorem Commissioning.Accepted.valveMin_le {r : Nat} (hr : r < 8) : c.valveMin r ≤ 10000 :=
  h.chillTuning_range (i := 4 + 2 * r) (range := (0, 10000)) (by revert r; decide)

theorem Commissioning.Accepted.holdValve_le {r : Nat} (hr : r < 8) : c.holdValve r ≤ 10000 :=
  h.chillTuning_range (i := 5 + 2 * r) (range := (0, 10000)) (by revert r; decide)

end

/-! ### What each stage writes into the working output set (R78, R81, R92, R125 to R127, R140) -/

/-- A zone's step leaves a fire of 0, the last fire bounded by max fire, or a clamped one (R71 to R75, R81). -/
theorem ZoneRec.step_lastFire_percent {r : ZoneRec} {i : ZoneInputs} (hmax : i.tables.comm.maxFire i.zone ≤ 10000)
    (hlast : Percent r.lastFire) : Percent (r.step i).lastFire := by
  have hcontrolled (air : Int) : Percent (r.controlled i air).lastFire := by
    change Percent (r.fire i air)
    unfold ZoneRec.fire
    split
    exacts [percent_zero, percent_clamp percent_zero (percent_natCast hmax)]
  have hsilent : Percent
      (if r.state.controlling = true ∧ r.holdOut i = false then r.heldOver i else r.failed i).lastFire := by
    split
    exacts [percent_min hlast (percent_natCast hmax), percent_zero]
  unfold ZoneRec.step
  split
  · exact percent_zero
  · split
    · exact percent_zero
    · cases i.air with
      | valid air => exact hcontrolled air
      | invalid | absent => exact hsilent

/-- FAN by Table 5.5: 0, an accepted item, or a clamp from fan min to 100.00 %. -/
theorem ZoneInputs.fan_percent {i : ZoneInputs} (h : i.tables.comm.Accepted) (hz : i.zone < 6) : Percent i.fan := by
  have hclamped (x : Int) : Percent (clamp x (i.tables.comm.fanMin i.zone) 10000) :=
    percent_clamp (percent_natCast (h.zoneItem_le hz rfl)) percent_full
  unfold ZoneInputs.fan
  cases i.dryer with
  | cold => exact percent_zero
  | preheat | ready | hold | run => exact hclamped _
  | purge | cooldown => exact percent_natCast (h.zoneItem_le hz rfl)

/-- EXHAUST by Table 6.2. -/
theorem ExhaustRec.damper_percent (r : ExhaustRec) {i : ExhaustInputs} (h : i.tables.comm.Accepted) :
    Percent (r.damper i) := by
  have hmin : Percent i.tables.comm.exhaustMin := percent_natCast h.exhaustMin_le
  unfold ExhaustRec.damper
  cases i.dryer with
  | cold => exact percent_zero
  | preheat | ready | hold => exact percent_clamp hmin percent_full
  | run =>
    dsimp only
    split
    exacts [percent_full, percent_clamp hmin percent_full]
  | purge => exact percent_full
  | cooldown => exact hmin

/-- CHILL_VALVE by the stand state (R125 to R127). -/
theorem ChillRec.valve_percent (r : ChillRec) {i : ChillInputs} {roll : Nat} (h : i.tables.comm.Accepted)
    (hroll : roll < 8) : Percent (r.valve i roll) := by
  unfold ChillRec.valve
  cases i.stand with
  | idle => exact percent_natCast h.idleValve_le
  | still => exact percent_natCast (h.holdValve_le hroll)
  | tracking => exact percent_clamp (percent_natCast (h.valveMin_le hroll)) percent_full

theorem Gate.next_count_le (g : Gate) (retired : List Segment) : (g.next retired).count ≤ 7 := by
  unfold Gate.next
  split_ifs
  exacts [Nat.zero_le 7, Nat.min_le_right _ 7, Nat.min_le_right _ 7]

theorem outputSet_reset_inRange : OutputSet.reset.InRange := by
  simp [OutputSet.InRange, OutputSet.reset, Percent]

/-! ### The range of the outputs, stage by stage -/

/-- The read side, the working output set and the zone records are all that the range of the outputs speaks of. -/
theorem State.OutputsInRange.of_kept {s t : State} (h : s.OutputsInRange)
    (hread : t.port.readSide = s.port.readSide) (hworking : t.engine.working = s.engine.working)
    (hzones : t.engine.zones = s.engine.zones) : t.OutputsInRange := by
  unfold State.OutputsInRange
  rw [hread, hworking, hzones]
  exact h

theorem State.OutputsInRange.of_changesOnly {s t : State} (h : s.OutputsInRange)
    (hframe : ChangesOnly s t [.sup, .trip, .svc, .nv, .pins, .localTime, .sent, .lastReply, .choices, .pending]) :
    t.OutputsInRange := by
  have hport : t.port = s.port := hframe .port (by decide)
  have hengine : t.engine = s.engine := hframe .engine (by decide)
  exact h.of_kept (by rw [hport]) (by rw [hengine]) (by rw [hengine])

theorem outputsInRange_resetBlocks (s : State) (causes : BitVec 3) : (s.resetBlocks causes).OutputsInRange := by
  refine ⟨outputSet_reset_inRange, outputSet_reset_inRange, fun r hr => ?_⟩
  obtain rfl : r = ZoneRec.reset := List.eq_of_mem_replicate hr
  exact percent_zero

section
variable {s : State} (h : s.OutputsInRange)
include h

theorem State.OutputsInRange.zone_lastFire (z : Nat) : Percent (s.engine.zone z).lastFire := by
  obtain ⟨-, -, hzones⟩ := h
  rw [Engine.zone, List.getD_eq_getElem?_getD]
  cases hz : s.engine.zones[z]? with
  | none => exact percent_zero
  | some r => exact hzones r (List.mem_of_getElem? hz)

theorem State.OutputsInRange.advanceTo (time : Nat) : (s.advanceTo time).OutputsInRange :=
  h.of_kept (by simp) (by simp) (by simp)

theorem State.OutputsInRange.atStage (stage : Stage) (f : Computation → State) (hf : ∀ c, (f c).OutputsInRange) :
    (s.atStage stage f).OutputsInRange := by
  rcases s.atStage_spec stage f with heq | ⟨c, -, -, heq⟩ <;> rw [heq]
  exacts [h, hf c]

theorem State.OutputsInRange.speedStage (c : Computation) : (takeSpeedStage c s).OutputsInRange :=
  h.of_kept (by simp [takeSpeedStage]) (by simp [takeSpeedStage]) (by simp [takeSpeedStage])

theorem State.OutputsInRange.dryerStep (c : Computation) (permit : Bool) :
    (takeDryerStep c permit s).OutputsInRange := by
  unfold takeDryerStep
  dsimp only
  split <;> exact h.of_kept (by simp [takeBreakCell]) (by simp [takeBreakCell]) (by simp [takeBreakCell])

theorem State.OutputsInRange.trackStage (c : Computation) : (takeTrackStage c s).OutputsInRange := h.of_kept rfl rfl rfl

/-- Stage 4 writes EXHAUST alone. -/
theorem State.OutputsInRange.exhaustStage (haccepted : s.svc.active.comm.Accepted) (c : Computation) :
    (takeExhaustStage c s).OutputsInRange := by
  obtain ⟨hread, ⟨hfires, hfans, hvalves, hfire, hfan, -, hvalve, hcount⟩, hzones⟩ := h
  unfold State.OutputsInRange
  simp only [takeExhaustStage, State.tripIf_port, State.tripIf_engine, State.latchIf_port, State.latchIf_engine]
  exact ⟨hread, ⟨hfires, hfans, hvalves, hfire, hfan, ExhaustRec.damper_percent _ haccepted, hvalve, hcount⟩, hzones⟩

/-- Stage 6 writes the valves of the active rolls. -/
theorem State.OutputsInRange.chillStage (haccepted : s.svc.active.comm.Accepted) (c : Computation) :
    (takeChillStage c s).OutputsInRange := by
  obtain ⟨hread, ⟨hfires, hfans, -, hfire, hfan, hexhaust, hvalve, hcount⟩, hzones⟩ := h
  have hvalves : ∀ x ∈ s.chillValves c, Percent x := forall_mem_tabulate.2 fun roll hroll => by
    split
    exacts [ChillRec.valve_percent _ haccepted hroll, percent_getD hvalve roll]
  unfold State.OutputsInRange
  simp only [takeChillStage, State.latchIf_port, State.latchIf_engine]
  exact ⟨hread, ⟨hfires, hfans, tabulate_length _ _, hfire, hfan, hexhaust, hvalves, hcount⟩, hzones⟩

/-- Stage 3 writes FIRE and FAN of the active zones, and every zone's record. -/
theorem State.OutputsInRange.zoneStage (haccepted : s.svc.active.comm.Accepted) (c : Computation) :
    (takeZoneStage c s).OutputsInRange := by
  have hstep (z : Nat) (hz : z < 6) : Percent ((s.engine.zone z).step (s.zoneInputs c z)).lastFire :=
    ZoneRec.step_lastFire_percent (haccepted.maxFire_le hz) (h.zone_lastFire z)
  obtain ⟨hread, ⟨-, -, hvalves, hfire, hfan, hexhaust, hvalve, hcount⟩, -⟩ := h
  have hfires : ∀ x ∈ s.zoneFires c, Percent x := forall_mem_tabulate.2 fun z hz => by
    split
    exacts [hstep z hz, percent_getD hfire z]
  have hfans : ∀ x ∈ s.zoneFans c, Percent x := forall_mem_tabulate.2 fun z hz => by
    split
    exacts [ZoneInputs.fan_percent haccepted hz, percent_getD hfan z]
  have hzones : ∀ r ∈ s.zonesNext c, Percent r.lastFire := forall_mem_tabulate.2 fun z hz => by
    split
    exacts [hstep z hz, percent_zero]
  unfold State.OutputsInRange
  simp only [takeZoneStage, State.tripIf_port, State.tripIf_engine, State.latchIf_port, State.latchIf_engine]
  exact ⟨hread, ⟨tabulate_length _ _, tabulate_length _ _, hvalves, hfires, hfans, hexhaust, hvalve, hcount⟩, hzones⟩

/-- Stage 7 takes the working values of what is active, 0 for the rest, and a count that saturates (R39, R140). -/
theorem State.OutputsInRange.report (c : Computation) : (s.report c).InRange := by
  obtain ⟨-, ⟨-, -, -, hfire, hfan, hexhaust, hvalve, -⟩, -⟩ := h
  have hactive {l : List Int} (hl : ∀ x ∈ l, Percent x) (n : Nat) (active : Nat → Bool) :
      ∀ x ∈ tabulate n fun i => if active i then l.getD i 0 else 0, Percent x := forall_mem_tabulate.2 fun i _ => by
    split
    exacts [percent_getD hl i, percent_zero]
  exact ⟨tabulate_length _ _, tabulate_length _ _, tabulate_length _ _, hactive hfire _ _, hactive hfan _ _, hexhaust,
    hactive hvalve _ _, Gate.next_count_le _ _⟩

theorem State.OutputsInRange.publication (c : Computation) : (takePublication c s).OutputsInRange := by
  have hreport := h.report c
  obtain ⟨-, -, hzones⟩ := h
  exact ⟨hreport, hreport, hzones⟩

/-! ### Commands that leave the outputs alone: frames, links, break lines and requests -/

theorem State.OutputsInRange.serviceKeeps {t : State} (hkeeps : ServiceKeeps s t) : t.OutputsInRange :=
  h.of_changesOnly (hkeeps.1.mono (by simp))

theorem State.OutputsInRange.request (k : RequestKind) (r : Request) : (s.request (serve k r s)).OutputsInRange := by
  unfold State.request
  split
  exacts [h, (h.serviceKeeps (serviceKeeps_serve k r s)).of_kept rfl rfl rfl]

theorem State.OutputsInRange.forward (f : EthFrame) : (s.forward f).OutputsInRange :=
  h.of_changesOnly ((forward_changesOnly s f).mono (by simp))

theorem State.OutputsInRange.latchIf (c : Bool) (f : Flag) : (s.latchIf c f).OutputsInRange :=
  h.of_changesOnly ((latchIf_changesOnly c f s).mono (by simp))

/-- A capture clears counts, and takes a sample set and a computation (R7). -/
theorem State.OutputsInRange.capture (late : Bool) (number : BitVec 32) (cells : List Cell) (time : Nat) :
    (s.capture late number cells time).OutputsInRange :=
  h.of_kept (by simp [capture_port]) (by simp [capture_engine]) (by simp [capture_engine])

theorem State.OutputsInRange.arrival (number : BitVec 32) (cells : List Cell) (time : Nat) :
    (s.arrival number cells time).OutputsInRange := by
  cases hv : s.sup.verdict s.svc.active.comm s.engine.flight.isSome number time with
  | anchoring => rw [State.arrival, hv]; exact (h.latchIf _ _).capture _ _ _ _
  | capture => rw [State.arrival, hv]; exact (h.latchIf _ _).capture _ _ _ _
  | early => rw [arrival_early hv]; exact h.of_kept rfl rfl rfl
  | duplicate => rw [arrival_duplicate hv]; exact h
  | overrun => rw [arrival_overrun hv]; exact h.of_kept rfl rfl rfl

theorem State.OutputsInRange.process (f : LineFrame) (time : Nat) : (s.process f time).OutputsInRange := by
  cases hkind : f.kind with
  | cycle =>
    rw [process_cycle s f time hkind]
    exact ((h.arrival _ _ _).serviceKeeps (serviceKeeps_serveLane _ _)).forward _
  | service =>
    rw [process_service s f time hkind]
    exact (h.serviceKeeps (serviceKeeps_serveLane _ _)).forward _

theorem State.OutputsInRange.receive (frame : EthFrame) (time : Nat) : (s.receive frame time).OutputsInRange := by
  have hfcs : s.countFcs.OutputsInRange := h.of_kept rfl rfl rfl
  have hmalformed : s.countMalformed.OutputsInRange := h.of_kept rfl rfl rfl
  unfold State.receive
  split_ifs
  · exact hfcs.forward frame
  · exact h.forward frame
  · split
    exacts [hmalformed.forward frame, h.process _ time]

theorem State.OutputsInRange.frameArrival (port : Port) (time : Nat) (frame : EthFrame) :
    ∃ t, exec (.frameArrival port time frame) s = .next t ∧ t.OutputsInRange := by
  refine ⟨_, rfl, ?_⟩
  cases port with
  | ringOut => exact h.advanceTo time
  | ringIn =>
    dsimp only
    split_ifs
    exacts [h, h.forward frame, (h.advanceTo time).receive frame time]

theorem State.OutputsInRange.setLink (port : Port) (up : Bool) : (s.setLink port up).OutputsInRange := by
  have hread : (s.setLink port up).port.readSide = s.port.readSide := by
    rw [State.setLink_port]
    split
    · cases port <;> rfl
    · rfl
  exact h.of_kept hread rfl rfl

theorem State.OutputsInRange.cutFrame (port : Port) : (s.cutFrame port).OutputsInRange := by
  cases port with
  | ringIn =>
    unfold State.cutFrame
    dsimp only
    split
    exacts [h, h.of_kept rfl rfl rfl]
  | ringOut => exact h.of_kept rfl rfl rfl

theorem State.OutputsInRange.takeLevel (k : Fin 4) : (s.takeLevel k).OutputsInRange := by
  by_cases huntaken : s.untaken k
  · exact h.of_changesOnly ((linesActed_takeLevel s k huntaken).frame.mono (by simp))
  · rw [State.takeLevel, if_pos (not_not.1 huntaken)]
    exact h

theorem State.OutputsInRange.lineChanged (line : Fin 4) (high : Bool) (time : Nat) :
    (s.lineChanged line high time).OutputsInRange := by
  have hchanged : ((s.advanceTo time).changeLevel line high).OutputsInRange := (h.advanceTo time).of_kept rfl rfl rfl
  unfold State.lineChanged
  split_ifs
  · exact h
  · exact h.of_kept rfl rfl rfl
  · dsimp only
    split
    exacts [hchanged.takeLevel line, hchanged]

theorem State.OutputsInRange.loadEnd : (takeLoadEnd s).OutputsInRange :=
  h.of_kept (by simp [takeLoadEnd]) (by simp [takeLoadEnd]) (by simp [takeLoadEnd])

theorem State.OutputsInRange.storeCompletion (written : Bool) :
    ∃ t, exec (.storeCompletion written) s = .next t ∧ t.OutputsInRange := by
  refine ⟨_, rfl, ?_⟩
  split
  · exact h
  · cases written <;> exact h.of_kept rfl rfl rfl

theorem State.OutputsInRange.dryerStepOf (row : Transition) (permit : Bool) (time : Nat) :
    (dryerStepOf row permit time s).OutputsInRange :=
  h.atStage .dryer _ fun c => by
    split
    exacts [(h.advanceTo time).dryerStep c permit, h]

end

/-! ### Every command -/

/-- Of the tables the active commissioning copy alone bounds what a command writes. -/
theorem exec_keeps_outputsInRange (c : Instr) (s : State) (haccepted : s.svc.active.comm.Accepted)
    (h : s.OutputsInRange) : ∃ t, exec c s = .next t ∧ t.OutputsInRange := by
  have hlater (time : Nat) : (s.advanceTo time).svc.active.comm.Accepted := by rwa [State.advanceTo_svc]
  cases c with
  | powerOn => exact ⟨_, rfl, outputsInRange_resetBlocks _ _⟩
  | localReset cut => exact ⟨_, rfl, outputsInRange_resetBlocks _ _⟩
  | localResetRelease =>
    refine ⟨_, rfl, ?_⟩
    split
    exacts [h, h.of_kept rfl rfl rfl]
  | lineResetTakesEffect =>
    refine ⟨_, rfl, ?_⟩
    split
    exacts [outputsInRange_resetBlocks _ _, h]
  | loadEnd =>
    refine ⟨_, rfl, ?_⟩
    split
    exacts [h.loadEnd, h]
  | portLinkUp port => exact ⟨_, rfl, h.setLink port true⟩
  | portLinkDown port cut =>
    refine ⟨_, exec_portLinkDown port cut s, ?_⟩
    split
    exacts [(h.cutFrame port).setLink port false, h.setLink port false]
  | frameArrival port time frame => exact h.frameArrival port time frame
  | warnExpiry time =>
    refine ⟨_, exec_warnExpiry time s, ?_⟩
    split
    exacts [(h.advanceTo time).of_kept rfl rfl rfl, h]
  | lossExpiry time =>
    refine ⟨_, exec_lossExpiry time s, ?_⟩
    split
    exacts [(h.advanceTo time).of_changesOnly ((takeLossExpiry_changesOnly _).mono (by simp)), h]
  | purgeExpiry time =>
    refine ⟨_, exec_purgeExpiry time s, ?_⟩
    split
    exacts [(h.advanceTo time).of_kept rfl rfl rfl, h]
  | speedStage => exact ⟨_, rfl, h.atStage _ _ h.speedStage⟩
  | speedHoldRunOut =>
    refine ⟨_, rfl, h.atStage _ _ fun c => ?_⟩
    split
    exacts [h.speedStage c, h]
  | dryerStep time permit => exact ⟨_, rfl, h.atStage _ _ fun c => (h.advanceTo time).dryerStep c permit⟩
  | permitTimerReached time => exact ⟨_, rfl, h.dryerStepOf _ _ time⟩
  | settleTimerReached time => exact ⟨_, rfl, h.dryerStepOf _ _ time⟩
  | runConfirmReached time => exact ⟨_, rfl, h.dryerStepOf _ _ time⟩
  | holdDelayReached time => exact ⟨_, rfl, h.dryerStepOf _ _ time⟩
  | holdLimitReached time => exact ⟨_, rfl, h.dryerStepOf _ _ time⟩
  | zoneStage time => exact ⟨_, rfl, h.atStage _ _ ((h.advanceTo time).zoneStage (hlater time))⟩
  | zoneSensorHoldRunOut zone time =>
    refine ⟨_, rfl, h.atStage _ _ fun c => ?_⟩
    split
    exacts [(h.advanceTo time).zoneStage (hlater time) c, h]
  | exhaustStage time => exact ⟨_, rfl, h.atStage _ _ ((h.advanceTo time).exhaustStage (hlater time))⟩
  | lelHoldRunOut time =>
    refine ⟨_, rfl, h.atStage _ _ fun c => ?_⟩
    split
    exacts [(h.advanceTo time).exhaustStage (hlater time) c, h]
  | trackStage => exact ⟨_, rfl, h.atStage _ _ h.trackStage⟩
  | chillStage => exact ⟨_, rfl, h.atStage _ _ (h.chillStage haccepted)⟩
  | chillSensorHoldRunOut =>
    refine ⟨_, rfl, h.atStage _ _ fun c => ?_⟩
    split
    exacts [h.chillStage haccepted c, h]
  | publication => exact ⟨_, rfl, h.atStage _ _ h.publication⟩
  | breakLineLevelChange line high time => exact ⟨_, rfl, h.lineChanged line high time⟩
  | breakLineLevelTaken line time =>
    refine ⟨_, rfl, ?_⟩
    split_ifs
    exacts [h, (h.advanceTo time).takeLevel line, h]
  | storeCompletion written => exact h.storeCompletion written
  | read r => exact ⟨_, rfl, h.request .read r⟩
  | write r => exact ⟨_, rfl, h.request .write r⟩
  | commit r => exact ⟨_, rfl, h.request .commit r⟩
  | discard r => exact ⟨_, rfl, h.request .discard r⟩
  | enterConfig r => exact ⟨_, rfl, h.request .enterConfig r⟩
  | leaveConfig r => exact ⟨_, rfl, h.request .leaveConfig r⟩
  | store r => exact ⟨_, rfl, h.request .store r⟩
  | clearLatched r => exact ⟨_, rfl, h.request .clearLatched r⟩
  | clearCauses r => exact ⟨_, rfl, h.request .clearCauses r⟩
  | clearCounters r => exact ⟨_, rfl, h.request .clearCounters r⟩
  | tripReset r => exact ⟨_, rfl, h.request .tripReset r⟩
  | testTrip r time => exact ⟨_, rfl, (h.advanceTo time).request .testTrip r⟩
  | lineReset r => exact ⟨_, rfl, h.request .lineReset r⟩

/-- Settles O57: an empty queue idles, and each command keeps the range under the accepted active copy. -/
theorem outputsStayInRange : Obligations.OutputsStayInRange := by
  intro s t haccepted h hstep
  rw [step] at hstep
  split at hstep
  · obtain rfl := Host.Outcome.next.inj hstep
    exact h
  · next c rest _ =>
    obtain ⟨u, hexec, hrest⟩ := exec_keeps_outputsInRange c { s with pending := rest } haccepted.1 h
    obtain rfl := Host.Outcome.next.inj (hexec.symm.trans hstep)
    exact hrest

/-! ### Curves (R34, R35) -/

theorem curveValue_of_le (p : Breakpoint) (rest : List Breakpoint) {x : Nat} (h : x ≤ p.1) :
    curveValue (p :: rest) x = p.2 := by
  obtain ⟨x0, y0⟩ := p
  exact if_pos h

theorem curveValue_singleton (p : Breakpoint) (x : Nat) : curveValue [p] x = p.2 := by
  obtain ⟨x0, y0⟩ := p
  simp [curveValue, curveFrom]

theorem curveValue_between (p q : Breakpoint) (rest : List Breakpoint) {x : Nat} (hp : p.1 < x) (hq : x < q.1) :
    curveValue (p :: q :: rest) x = p.2 + ((q.2 - p.2) * ((x : Int) - p.1)).tdiv ((q.1 : Int) - p.1) := by
  obtain ⟨x0, y0⟩ := p
  obtain ⟨x1, y1⟩ := q
  simp only at hp hq
  simp [curveValue, curveFrom, hq, Nat.not_le.2 hp, trunc]

/-- From the second breakpoint on the first one no longer counts. -/
theorem curveValue_cons_cons (p q : Breakpoint) (rest : List Breakpoint) {x : Nat}
    (hascent : (p :: q :: rest).Pairwise fun a b => a.1 < b.1) (hq : q.1 ≤ x) :
    curveValue (p :: q :: rest) x = curveValue (q :: rest) x := by
  obtain ⟨x0, y0⟩ := p
  obtain ⟨x1, y1⟩ := q
  have hfirst : x0 < x1 := List.rel_of_pairwise_cons hascent (.head _)
  have hskip : curveValue ((x0, y0) :: (x1, y1) :: rest) x = curveFrom x1 y1 rest x := by
    simp only at hq
    simp [curveValue, curveFrom, Nat.not_le.2 (hfirst.trans_le hq), Nat.not_lt.2 hq]
  rw [hskip]
  rcases Nat.lt_or_eq_of_le hq with hlt | rfl
  · exact (if_neg (Nat.not_le.2 hlt)).symm
  · rw [curveValue_of_le (x1, y1) rest (Nat.le_refl x1)]
    cases rest with
    | nil => rfl
    | cons r rest =>
      have hsecond : x1 < r.1 := List.rel_of_pairwise_cons hascent.of_cons (.head _)
      simp [curveFrom, hsecond, trunc]

/-- At or beyond a breakpoint the curve is what that breakpoint begins. -/
theorem curveValue_append (before : List Breakpoint) (q : Breakpoint) (rest : List Breakpoint) {x : Nat}
    (hascent : (before ++ q :: rest).Pairwise fun a b => a.1 < b.1) (hq : q.1 ≤ x) :
    curveValue (before ++ q :: rest) x = curveValue (q :: rest) x := by
  induction before with
  | nil => rfl
  | cons p before ih =>
    rw [← ih hascent.of_cons]
    cases before with
    | nil => exact curveValue_cons_cons p q rest hascent hq
    | cons r before =>
      have hr : r.1 < q.1 := List.rel_of_pairwise_cons hascent.of_cons (by simp)
      exact curveValue_cons_cons p r _ hascent (hr.le.trans hq)

theorem exists_append_of_getElem? {α : Type} {l : List α} {i : Nat} {p q : α} (hp : l[i]? = some p)
    (hq : l[i + 1]? = some q) : ∃ before rest, l = before ++ p :: q :: rest := by
  obtain ⟨hi, rfl⟩ := List.getElem?_eq_some_iff.1 hp
  obtain ⟨hi', rfl⟩ := List.getElem?_eq_some_iff.1 hq
  refine ⟨l.take i, l.drop (i + 2), ?_⟩
  rw [← List.drop_eq_getElem_cons hi', ← List.drop_eq_getElem_cons hi, List.take_append_drop]

/-- The part of `d` that `a` of `b` makes, divided toward zero, lies between 0 and `d`. -/
theorem tdiv_part_between {d a b : Int} (ha : 0 ≤ a) (hab : a ≤ b) (hb : 0 < b) :
    min 0 d ≤ (d * a).tdiv b ∧ (d * a).tdiv b ≤ max 0 d := by
  have part {e : Int} (he : 0 ≤ e) : 0 ≤ (e * a).tdiv b ∧ (e * a).tdiv b ≤ e := by
    rw [Int.tdiv_eq_ediv_of_nonneg (mul_nonneg he ha)]
    exact ⟨Int.ediv_nonneg (mul_nonneg he ha) hb.le,
      Int.ediv_le_of_le_mul hb (mul_le_mul_of_nonneg_left hab he)⟩
  rcases le_total 0 d with hd | hd
  · have := part hd
    omega
  · have hneg := part (Int.neg_nonneg.2 hd)
    rw [Int.neg_mul, Int.neg_tdiv] at hneg
    omega

/-- Settles O20: what stands before the breakpoint in question does not count, and the rest of the curve begins with
it. -/
theorem curveFollowsItsBreakpoints : Obligations.CurveFollowsItsBreakpoints := by
  refine ⟨fun x => rfl, fun pts x hascent => ⟨fun p hhead hx => ?_, fun p hlast hx => ?_, fun i p q hp hq hpx hxq => ?_,
    fun p hp hx => ?_, fun p hpts => ?_⟩⟩
  · obtain ⟨rest, rfl⟩ := List.head?_eq_some_iff.1 hhead
    exact curveValue_of_le p rest hx
  · obtain ⟨before, rfl⟩ := List.getLast?_eq_some_iff.1 hlast
    rw [curveValue_append before p [] hascent hx, curveValue_singleton]
  · obtain ⟨before, rest, rfl⟩ := exists_append_of_getElem? hp hq
    have hbetween := tdiv_part_between (d := q.2 - p.2) (a := (x : Int) - p.1) (b := (q.1 : Int) - p.1) (by omega)
      (by omega) (by omega)
    rw [curveValue_append before p _ hascent hpx.le, curveValue_between p q rest hpx hxq]
    exact ⟨rfl, by omega, by omega⟩
  · obtain ⟨before, rest, rfl⟩ := List.append_of_mem hp
    rw [curveValue_append before p rest hascent hx.ge, curveValue_of_le p rest hx.le]
  · rw [hpts, curveValue_singleton]

/-! ### The speed stage (R31 to R33) -/

theorem exec_speedStage (s : State) : exec .speedStage s = .next (s.atStage .speed fun c => takeSpeedStage c s) := rfl

theorem exec_speedHoldRunOut (s : State) :
    exec .speedHoldRunOut s = .next (s.atStage .speed fun c =>
      if speedHoldOut s.svc.active.comm s.engine.samples.webSpeed s.engine.speed then takeSpeedStage c s else s) := rfl

theorem Sample.isValid_eq_false_iff (x : Sample) : x.isValid = false ↔ ∀ v, x ≠ .valid v := by
  cases x <;> simp [Sample.isValid]

theorem holdStep_silent (t : Nat) {x : Sample} (period : Nat) (h : x.isValid = false) :
    holdStep t x period = min (t + period) 8589934591 := by
  simp [holdStep, h, advanceTimer, timerMax]

section
variable (m : Commissioning) (samples : SampleSet) (r : SpeedRec)

theorem speedHoldOut_valid {w : Int} (h : samples.webSpeed = .valid w) : speedHoldOut m samples.webSpeed r = false := by
  simp [speedHoldOut, h, Sample.isValid]

theorem speedHoldOut_silent (h : samples.webSpeed.isValid = false) :
    speedHoldOut m samples.webSpeed r = true ↔ m.speedHold < min (r.hold + m.period) 8589934591 := by
  simp [speedHoldOut, h, holdStep_silent]

/-- A VALID speed is clamped and held (R31). -/
theorem speedNext_valid {w : Int} (h : samples.webSpeed = .valid w) :
    ((r.next m samples).v : Int) = max 0 (min w m.vmax) ∧ (r.next m samples).lastValid = (r.next m samples).v
      ∧ (r.next m samples).hold = 0 ∧ (r.next m samples).invalid = false := by
  have hv : ((r.next m samples).v : Int) = max 0 (min w m.vmax) := by
    simp only [SpeedRec.next, validatedSpeed, h, clamp_zero]
    omega
  exact ⟨hv, by simp [SpeedRec.next, h, Sample.isValid], by simp [SpeedRec.next, h, holdStep, Sample.isValid],
    by simp [SpeedRec.next, h, Sample.isValid]⟩

/-- Without a VALID speed the hold timer runs and the last valid speed stands (R32). -/
theorem speedNext_silent (h : samples.webSpeed.isValid = false) :
    (r.next m samples).hold = min (r.hold + m.period) 8589934591 ∧ (r.next m samples).lastValid = r.lastValid
      ∧ (r.next m samples).invalid = (speedHoldOut m samples.webSpeed r || r.invalid) := by
  simp [SpeedRec.next, h, holdStep_silent]

/-- Within the hold the last valid speed stands in, and past it v is 0 (R32). -/
theorem speedNext_silent_v (h : samples.webSpeed.isValid = false) :
    (r.next m samples).v = if speedHoldOut m samples.webSpeed r then 0 else min r.lastValid m.vmax := by
  have hclamp : (clamp r.lastValid 0 m.vmax).toNat = min r.lastValid m.vmax := by
    rw [clamp_zero]
    omega
  cases hx : samples.webSpeed with
  | valid w => simp [hx, Sample.isValid] at h
  | invalid | absent => simp [SpeedRec.next, validatedSpeed, hx, hclamp]

theorem speedNext_vs_valid {w : Int} (h : samples.speedRef = .valid w) :
    (r.next m samples).vs =
      (((r.next m samples).v : Int) + ((max 0 (min w m.vmax) - (r.next m samples).v) * m.lead).tdiv 16).toNat := by
  simp only [SpeedRec.next, schedulingSpeed, h, clamp_zero, trunc]

theorem speedNext_vs_silent (h : ∀ w, samples.speedRef ≠ .valid w) : (r.next m samples).vs = (r.next m samples).v := by
  cases hx : samples.speedRef with
  | valid w => exact absurd hx (h w)
  | invalid | absent => simp [SpeedRec.next, schedulingSpeed, hx]

end

theorem takeSpeedStage_engine (c : Computation) (s : State) :
    (takeSpeedStage c s).engine = { s.engine with
      speed := s.engine.speed.next s.svc.active.comm s.engine.samples
      flight := some { c with stage := .dryer } } := by
  simp [takeSpeedStage]

theorem takeSpeedStage_changesOnly (c : Computation) (s : State) :
    ChangesOnly s (takeSpeedStage c s) [.engine, .svc, .pins] := by
  intro b hb; cases b <;> simp [Block.Same, takeSpeedStage] at hb ⊢

/-- Stage 1 latches SPEED_INVALID where the hold runs out, and nothing else of the Service Handler (R32). -/
theorem takeSpeedStage_running (c : Computation) (s : State)
    (h : speedHoldOut s.svc.active.comm s.engine.samples.webSpeed s.engine.speed = false) :
    (takeSpeedStage c s).svc = s.svc ∧ (takeSpeedStage c s).pins = s.pins := by
  simp [takeSpeedStage, h, State.latchIf]

theorem takeSpeedStage_runOut (c : Computation) (s : State)
    (h : speedHoldOut s.svc.active.comm s.engine.samples.webSpeed s.engine.speed = true) :
    (takeSpeedStage c s).svc = { s.svc with latched := s.svc.latched ||| Flag.speedInvalid.mask } := by
  simp [takeSpeedStage, h, State.latchIf]

/-- Settles O21: the record is `SpeedRec.next`'s, by the sample and by whether the hold has run out. -/
theorem speedStageFormsTheSpeed : Obligations.SpeedStageFormsTheSpeed := by
  intro s c hflight hstage
  have hexec : exec .speedStage s = .next (takeSpeedStage c s) := by
    rw [exec_speedStage, s.atStage_of c .speed _ hflight hstage]
  refine ⟨takeSpeedStage c s, hexec, ?_⟩
  rw [takeSpeedStage_engine]
  refine ⟨fun w hw => ?_, fun hsilent => ?_, fun w hw => speedNext_vs_valid _ _ _ hw,
    fun hsilent => speedNext_vs_silent _ _ _ hsilent, rfl, takeSpeedStage_changesOnly c s⟩
  · obtain ⟨hv, hlast, hhold, hinvalid⟩ := speedNext_valid s.svc.active.comm s.engine.samples s.engine.speed hw
    obtain ⟨hsvc, hpins⟩ := takeSpeedStage_running c s (speedHoldOut_valid _ _ _ hw)
    exact ⟨hv, hlast, hhold, hinvalid, hsvc, hpins⟩
  · replace hsilent := (Sample.isValid_eq_false_iff _).2 hsilent
    have hout := speedHoldOut_silent s.svc.active.comm s.engine.samples s.engine.speed hsilent
    have hv := speedNext_silent_v s.svc.active.comm s.engine.samples s.engine.speed hsilent
    obtain ⟨hhold, hlast, hinvalid⟩ := speedNext_silent s.svc.active.comm s.engine.samples s.engine.speed hsilent
    refine ⟨hhold, hlast, fun hwithin => ?_, fun hpast => ?_⟩
    · have hruns : speedHoldOut s.svc.active.comm s.engine.samples.webSpeed s.engine.speed = false :=
        Bool.eq_false_iff.2 fun h => (hout.1 h).not_ge hwithin
      obtain ⟨hsvc, hpins⟩ := takeSpeedStage_running c s hruns
      rw [hruns] at hv hinvalid
      exact ⟨hv, hinvalid, hsvc, hpins⟩
    · have hran := hout.2 hpast
      refine ⟨?_, ?_, takeSpeedStage_runOut c s hran, ?_⟩
      · rw [hran] at hv
        exact hv
      · rw [hran] at hinvalid
        exact hinvalid
      · rw [exec_speedHoldRunOut, s.atStage_of c .speed _ hflight hstage, if_pos hran]

/-! ### The publication (R39 to R41) -/

theorem exec_publication (s : State) :
    exec .publication s = .next (s.atStage .report fun c => takePublication c s) := rfl

/-- The publication number passes from its greatest value to 1 (R40). -/
theorem nextPublication_eq (n : BitVec 32) : nextPublication n = if n = 0xFFFFFFFF then 1 else n + 1 := by
  have hlast : n + 1 = 0 ↔ n = 0xFFFFFFFF := by
    constructor <;> intro h <;> bv_omega
  simp only [nextPublication, hlast]

theorem flagNumber_eq_bit (f : Flag) : flagNumber f = f.bit := by cases f <;> rfl

theorem mem_allFlags (f : Flag) : f ∈ allFlags := List.mem_of_getElem? (allFlags_getElem?_bit f)

/-- A set of flags holds those it was formed from. -/
theorem hasFlag_flagSet (fs : List Flag) (f : Flag) : hasFlag (flagSet fs) f = true ↔ f ∈ fs := by
  induction fs with
  | nil => simp [hasFlag, flagSet]
  | cons g fs ih =>
    have hcons : flagSet (g :: fs) = flagSet fs ||| g.mask := BitVec.or_comm _ _
    rw [hcons, hasFlag_or_mask, ih, List.mem_cons, or_comm]

theorem presentSet_getLsbD (s : State) (f : Flag) :
    s.presentSet.getLsbD (flagNumber f) = true ↔ s.presentOf f = true := by
  rw [flagNumber_eq_bit]
  exact (hasFlag_flagSet _ f).trans (by simp [mem_allFlags])

theorem mem_activeZones (m : Commissioning) (z : Nat) : z ∈ m.activeZones ↔ z < 6 ∧ z < m.zoneCount := by
  simp [Commissioning.activeZones, Commissioning.zoneActive]

/-- The present conditions are those of Table 11.4. -/
theorem presentOf_iff (s : State) (f : Flag) : s.presentOf f = true ↔ presentNow s f := by
  cases f with
  | linkWarn | speedInvalid | modeInvalid | lelAlarm | recipeMissing | trip => rfl
  | cycleIrregular | overrun | permitLost | permitTimeout | storeFail => simp [State.presentOf, presentNow]
  | zoneFault | overtemp => simp [State.presentOf, presentNow, mem_activeZones, and_assoc]
  | notice => simp [State.presentOf, presentNow, State.lineActive, LineMode.active_iff, and_comm]
  | chillFault | storeInvalid => simp [State.presentOf, presentNow]

/-- Settles O36: `takePublication` item by item. -/
theorem publicationReplacesTheOutputSet : Obligations.PublicationReplacesTheOutputSet := by
  intro s c hflight hstage
  refine ⟨takePublication c s, ?_, rfl, rfl, ?_, fun f => ?_, rfl, rfl, rfl, fun z hz => ?_, fun r hr => ?_, rfl, rfl,
    ?_⟩
  · rw [exec_publication, s.atStage_of c .report _ hflight hstage]
  · rw [← nextPublication_eq]
    rfl
  · exact (presentSet_getLsbD s f).trans (presentOf_iff s f)
  · exact ⟨tabulate_getD _ 0 hz, tabulate_getD _ 0 hz⟩
  · exact tabulate_getD _ 0 hr
  · intro b hb; cases b <;> simp [Block.Same, takePublication] at hb ⊢

end Sys2Proof.Machine
end

section
/-!
SUPPORT. Proofs about the output lines: HEAT_REQUEST, TRIP and ALERT after every operation and every command.
-/
namespace Sys2Proof.Machine

/-! ### The levels of the output lines (R63, R150, R175) -/

theorem DryerState.heated_iff (d : DryerState) :
    d.heated = true ↔ d = .preheat ∨ d = .ready ∨ d = .run ∨ d = .hold := by
  cases d <;> simp [DryerState.heated]

theorem heatLevel_iff (s : State) :
    s.heatLevel = true ↔
      (s.engine.dryer.state = .preheat ∨ s.engine.dryer.state = .ready ∨ s.engine.dryer.state = .run
          ∨ s.engine.dryer.state = .hold)
        ∧ s.svc.node = .operate ∧ s.trip.latch = false ∧ s.trip.tripMark = false := by
  simp [State.heatLevel, DryerState.heated_iff, and_assoc]

theorem tripLevel_iff (s : State) : s.tripLevel = true ↔ s.trip.latch = true ∨ s.svc.node = .loading := by
  simp [State.tripLevel]

/-- Every bit of a set of flags belongs to a flag. -/
theorem exists_flag_bit (i : Nat) (hi : i < 16) : ∃ f : Flag, f.bit = i :=
  have hbits : ∀ i : Fin 16, allFlags[i.val].bit = i.val := by decide
  ⟨_, hbits ⟨i, hi⟩⟩

theorem alertLevel_iff (s : State) :
    s.alertLevel = true ↔
      ∃ f : Flag, s.svc.latched.getLsbD (flagNumber f) = true ∧ s.svc.enable.getLsbD (flagNumber f) = true := by
  rw [State.alertLevel, bne_iff_ne, ne_eq, ← not_iff_comm]
  constructor
  · intro hnone
    refine BitVec.eq_of_getLsbD_eq fun i hi => ?_
    obtain ⟨f, rfl⟩ := exists_flag_bit i hi
    have hf : ¬(s.svc.latched.getLsbD f.bit = true ∧ s.svc.enable.getLsbD f.bit = true) := fun h =>
      hnone ⟨f, by rwa [flagNumber_eq_bit]⟩
    rw [← Bool.and_eq_true, ← BitVec.getLsbD_and] at hf
    simpa using hf
  · rintro hzero ⟨f, hf⟩
    rw [← Bool.and_eq_true, ← BitVec.getLsbD_and, hzero] at hf
    simp at hf

theorem linesFormed_iff (s : State) : s.LinesFormed ↔ linesAsRuled s := by
  rw [State.LinesFormed, linesAsRuled, ← heatLevel_iff, ← tripLevel_iff, ← alertLevel_iff]
  exact and_congr Bool.eq_iff_iff (and_congr Bool.eq_iff_iff Bool.eq_iff_iff)

/-! ### The lines, operation by operation -/

/-- All that the output lines and their rules look at. -/
def State.lineTerms (s : State) :
    (DryerState × NodeState × Bool × Bool) × (BitVec 16 × BitVec 16) × (Bool × Bool × Bool) :=
  ((s.engine.dryer.state, s.svc.node, s.trip.latch, s.trip.tripMark), (s.svc.latched, s.svc.enable),
    (s.pins.heatRequest, s.pins.tripLine, s.pins.alertLine))

theorem linesFormed_of_terms {s t : State} (h : s.LinesFormed) (hterms : t.lineTerms = s.lineTerms) :
    t.LinesFormed := by
  simp only [State.lineTerms, Prod.mk.injEq] at hterms
  obtain ⟨⟨hdryer, hnode, hlatch, hmark⟩, ⟨hlatched, henable⟩, hheat, htrip, halert⟩ := hterms
  unfold State.LinesFormed State.heatLevel State.tripLevel State.alertLevel
  rw [hdryer, hnode, hlatch, hmark, hlatched, henable, hheat, htrip, halert]
  exact h

theorem linesFormed_resetBlocks (s : State) (causes : BitVec 3) : (s.resetBlocks causes).LinesFormed := ⟨rfl, rfl, rfl⟩

theorem linesFormed_takeLoadEnd (s : State) : (takeLoadEnd s).LinesFormed := ⟨rfl, rfl, rfl⟩

/-- HEAT_REQUEST formed anew commutes with a flag latched: R63 reads no flag. -/
theorem formHeat_latchFlag (f : Flag) (s : State) : (s.latchFlag f).formHeat = s.formHeat.latchFlag f := rfl

theorem formHeat_latchIf (c : Bool) (f : Flag) (s : State) : (s.latchIf c f).formHeat = s.formHeat.latchIf c f := by
  cases c <;> rfl

section
variable {s : State} (h : s.LinesFormed)
include h

/-- A flag latched moves ALERT alone, which is formed anew. -/
theorem State.LinesFormed.latchFlag (f : Flag) : (s.latchFlag f).LinesFormed := by
  obtain ⟨hheat, htrip, -⟩ := h
  exact ⟨hheat, htrip, rfl⟩

theorem State.LinesFormed.latchIf (c : Bool) (f : Flag) : (s.latchIf c f).LinesFormed := by
  unfold State.latchIf
  split
  exacts [h.latchFlag f, h]

/-- A trip that finds the latch clear lowers HEAT_REQUEST and raises TRIP; one that finds it set leaves both. -/
theorem State.LinesFormed.tripArrives (c : Cause) : (s.tripArrives c).LinesFormed := by
  cases hlatch : s.trip.latch
  · simp [State.tripArrives, hlatch, State.LinesFormed, State.heatLevel, State.tripLevel, State.alertLevel]
  · obtain ⟨hheat, htrip, -⟩ := h
    rw [State.tripArrives_set c s hlatch]
    exact ⟨hheat, htrip, rfl⟩

theorem State.LinesFormed.tripIf (b : Bool) (c : Cause) : (s.tripIf b c).LinesFormed := by
  unfold State.tripIf
  split
  exacts [h.tripArrives c, h]

theorem State.LinesFormed.advanceTo (time : Nat) : (s.advanceTo time).LinesFormed :=
  linesFormed_of_terms h (by simp [State.lineTerms, State.advanceTo_latch, State.advanceTo_tripMark])

theorem State.LinesFormed.lineAct (k : Fin 4) : (s.lineAct k).LinesFormed := by
  unfold State.lineAct
  split
  exacts [h.tripArrives _, h.latchFlag _]

theorem State.LinesFormed.takeLevel (k : Fin 4) : (s.takeLevel k).LinesFormed := by
  have htaken : ({ s with trip := s.trip.take k.val (s.pins.line k.val) } : State).LinesFormed :=
    linesFormed_of_terms h rfl
  unfold State.takeLevel
  dsimp only
  split_ifs
  exacts [h, htaken.lineAct k, htaken]

theorem State.LinesFormed.lineChanged (line : Fin 4) (high : Bool) (time : Nat) :
    (s.lineChanged line high time).LinesFormed := by
  have hchanged : ((s.advanceTo time).changeLevel line high).LinesFormed := linesFormed_of_terms (h.advanceTo time) rfl
  unfold State.lineChanged
  dsimp only
  split_ifs
  exacts [h, linesFormed_of_terms h rfl, hchanged.takeLevel line, hchanged]

theorem State.LinesFormed.inSomeOrder (lines : List (Fin 4)) (act : Fin 4 → State → State) (hnodup : lines.Nodup)
    (hact : ∀ k u, State.LinesFormed u → (act k u).LinesFormed) : (s.inSomeOrder lines act).LinesFormed := by
  obtain ⟨order, choices, -, horder⟩ := inSomeOrder_eq_foldl s lines act hnodup
  rw [horder]
  exact List.foldlRecOn order _ (linesFormed_of_terms h rfl) fun u hu k _ => hact k u hu

theorem State.LinesFormed.judgeLines : s.judgeLines.LinesFormed :=
  (h.inSomeOrder _ _ (activatedLines_nodup s) fun k _ hu => hu.lineAct k).inSomeOrder _ _ (dueLines_nodup _)
    fun k _ hu => hu.takeLevel k

theorem State.LinesFormed.cutFrame (port : Port) : (s.cutFrame port).LinesFormed := by
  cases port with
  | ringIn =>
    unfold State.cutFrame
    dsimp only
    split
    exacts [h, linesFormed_of_terms h rfl]
  | ringOut => exact linesFormed_of_terms h rfl

theorem State.LinesFormed.setLink (port : Port) (up : Bool) : (s.setLink port up).LinesFormed :=
  linesFormed_of_terms h (by cases port <;> rfl)

theorem State.LinesFormed.storeCompletion (written : Bool) :
    ∃ t, exec (.storeCompletion written) s = .next t ∧ t.LinesFormed := by
  refine ⟨_, rfl, ?_⟩
  split
  · exact h
  · cases written with
    | true => exact linesFormed_of_terms h rfl
    | false =>
      refine State.LinesFormed.latchFlag (State.LinesFormed.latchFlag ?_ _) _
      exact linesFormed_of_terms h rfl

/-! #### The stages: the dryer step alone moves the dryer and reads the trip mark -/

theorem State.LinesFormed.atStage (stage : Stage) (f : Computation → State) (hf : ∀ c, (f c).LinesFormed) :
    (s.atStage stage f).LinesFormed := by
  rcases s.atStage_spec stage f with heq | ⟨c, -, -, heq⟩ <;> rw [heq]
  exacts [h, hf c]

theorem State.LinesFormed.speedStage (c : Computation) : (takeSpeedStage c s).LinesFormed := by
  refine State.LinesFormed.latchIf ?_ _ _
  exact linesFormed_of_terms h rfl

theorem State.LinesFormed.zoneStage (c : Computation) : (takeZoneStage c s).LinesFormed := by
  have hengine : ({ s with engine := s.zoneEngine c } : State).LinesFormed := linesFormed_of_terms h rfl
  exact ((hengine.latchIf _ _).latchIf _ _).tripIf _ _

theorem State.LinesFormed.exhaustStage (c : Computation) : (takeExhaustStage c s).LinesFormed := by
  have hengine : ({ s with engine := s.exhaustEngine c } : State).LinesFormed := linesFormed_of_terms h rfl
  exact (hengine.latchIf _ _).tripIf _ _

theorem State.LinesFormed.chillStage (c : Computation) : (takeChillStage c s).LinesFormed := by
  refine State.LinesFormed.latchIf ?_ _ _
  exact linesFormed_of_terms h rfl

theorem State.LinesFormed.takeBreakCell : (takeBreakCell s).LinesFormed := by
  refine State.LinesFormed.tripIf ?_ _ _
  exact linesFormed_of_terms h rfl

end

/-! ### The dryer step, taken apart (R45) -/

/-- The flag of the row is latched, where the row has one (Table 4.3). -/
def State.latchRow (row : Transition) (s : State) : State :=
  match row.flag with
  | none => s
  | some f => s.latchFlag f

/-- All that `latchRow` can do. -/
theorem latchRow_spec (row : Transition) (s : State) :
    (row.flag = none ∧ s.latchRow row = s) ∨ ∃ f, row.flag = some f ∧ s.latchRow row = s.latchFlag f := by
  unfold State.latchRow
  cases hflag : row.flag with
  | none => exact .inl ⟨rfl, rfl⟩
  | some f => exact .inr ⟨f, rfl, rfl⟩

/-- The dryer step before its flags and HEAT_REQUEST: BREAK_CELL and the trip mark read, and the record stepped. -/
def steppedDryer (c : Computation) (permit : Bool) (s : State) : State :=
  { takeBreakCell s with
    engine := { (takeBreakCell s).engine with
      dryer := (s.dryerOutcome permit).1
      flight := some { c with stage := .zones, node := (takeBreakCell s).svc.node, permit := permit } }
    trip := { (takeBreakCell s).trip with tripMark := false } }

/-- The flags the dryer step latches: MODE_INVALID, the row's, and RECIPE_MISSING with the recipe finding. -/
def latchDryerFlags (permit : Bool) (s u : State) : State :=
  ((u.latchIf (modeOutOfRange s.engine.samples.modeRequest) .modeInvalid).latchRow (s.dryerOutcome permit).2).latchIf
    (s.dryerOutcome permit).1.recipeFinding .recipeMissing

theorem formHeat_latchRow (row : Transition) (s : State) : (s.latchRow row).formHeat = s.formHeat.latchRow row := by
  unfold State.latchRow
  cases row.flag <;> rfl

theorem takeDryerStep_eq (c : Computation) (permit : Bool) (s : State) :
    takeDryerStep c permit s = latchDryerFlags permit s (steppedDryer c permit s).formHeat :=
  calc takeDryerStep c permit s
    _ = (latchDryerFlags permit s (steppedDryer c permit s)).formHeat := rfl
    _ = latchDryerFlags permit s (steppedDryer c permit s).formHeat := by
      simp only [latchDryerFlags, formHeat_latchIf, formHeat_latchRow]

section
variable {s : State} (h : s.LinesFormed)
include h

theorem State.LinesFormed.latchRow (row : Transition) : (s.latchRow row).LinesFormed := by
  rcases latchRow_spec row s with ⟨-, heq⟩ | ⟨f, -, heq⟩ <;> rw [heq]
  exacts [h, h.latchFlag f]

/-- The dryer step forms HEAT_REQUEST anew; TRIP and ALERT stand as the trip of BREAK_CELL has left them. -/
theorem State.LinesFormed.dryerStep (c : Computation) (permit : Bool) : (takeDryerStep c permit s).LinesFormed := by
  obtain ⟨-, htrip, halert⟩ := h.takeBreakCell
  have hstepped : (steppedDryer c permit s).formHeat.LinesFormed := ⟨rfl, htrip, halert⟩
  rw [takeDryerStep_eq]
  exact ((hstepped.latchIf _ _).latchRow _).latchIf _ _

theorem State.LinesFormed.dryerStepOf (row : Transition) (permit : Bool) (time : Nat) :
    (dryerStepOf row permit time s).LinesFormed :=
  h.atStage .dryer _ fun c => by
    split
    exacts [(h.advanceTo time).dryerStep c permit, h]

end

/-! ### A running part: requests and frames -/

/-- The lines stand as ruled, and the part runs, so that TRIP is the latch. -/
def State.RunsFormed (s : State) : Prop := s.svc.node ≠ .loading ∧ s.LinesFormed

theorem runsFormed_of_terms {s t : State} (h : s.RunsFormed) (hterms : t.lineTerms = s.lineTerms) : t.RunsFormed := by
  have hnode : t.svc.node = s.svc.node := by
    simp only [State.lineTerms, Prod.mk.injEq] at hterms
    obtain ⟨⟨-, hnode, -⟩, -⟩ := hterms
    exact hnode
  obtain ⟨hrun, hlines⟩ := h
  exact ⟨hnode ▸ hrun, linesFormed_of_terms hlines hterms⟩

section
variable {s : State} (h : s.RunsFormed)
include h

theorem State.RunsFormed.latchFlag (f : Flag) : (s.latchFlag f).RunsFormed := ⟨h.1, h.2.latchFlag f⟩

theorem State.RunsFormed.latchIf (c : Bool) (f : Flag) : (s.latchIf c f).RunsFormed :=
  ⟨by simpa using h.1, h.2.latchIf c f⟩

theorem State.RunsFormed.tripArrives (c : Cause) : (s.tripArrives c).RunsFormed :=
  ⟨by simpa using h.1, h.2.tripArrives c⟩

theorem State.RunsFormed.advanceTo (time : Nat) : (s.advanceTo time).RunsFormed :=
  ⟨by simpa using h.1, h.2.advanceTo time⟩

/-- From one running node state to another TRIP stays, and HEAT_REQUEST is formed anew. -/
theorem State.RunsFormed.formHeat_svc (svc : Handler) (hrun : svc.node ≠ .loading)
    (hlatched : svc.latched = s.svc.latched) (henable : svc.enable = s.svc.enable) :
    ({ s with svc := svc } : State).formHeat.RunsFormed := by
  obtain ⟨hnode, -, htrip, halert⟩ := h
  refine ⟨hrun, rfl, ?_, ?_⟩
  · simpa [State.tripLevel, beq_eq_false_iff_ne.2 hnode, beq_eq_false_iff_ne.2 hrun] using htrip
  · simpa [State.alertLevel, hlatched, henable] using halert

theorem State.RunsFormed.toConfig : s.toConfig.RunsFormed := h.formHeat_svc _ nofun rfl rfl

theorem State.RunsFormed.resetTrip : s.resetTrip.RunsFormed := by
  obtain ⟨hrun, -, -, halert⟩ := h
  exact ⟨hrun, rfl, rfl, halert⟩

/-- A new latched set or a new enable mask is followed by ALERT (R175). -/
theorem State.RunsFormed.formAlert_svc (svc : Handler) (hnode : svc.node = s.svc.node) :
    ({ s with svc := svc } : State).formAlert.RunsFormed := by
  obtain ⟨hrun, hheat, htrip, -⟩ := h
  refine ⟨by simpa [hnode] using hrun, ?_, ?_, rfl⟩
  · simpa [State.heatLevel, hnode] using hheat
  · simpa [State.tripLevel, hnode] using htrip

/-! #### Service requests -/

theorem State.RunsFormed.checked {k : RequestKind} {r : Request} {f : State × Reply} (hf : f.1.RunsFormed) :
    (s.checked k r f).1.RunsFormed := by
  unfold State.checked
  split
  exacts [h, hf]

theorem State.RunsFormed.onTable {r : Request} {f : TableId → State × Reply} (hf : ∀ t, (f t).1.RunsFormed) :
    (onTable r s f).1.RunsFormed := by
  unfold Machine.onTable
  split
  exacts [h, hf _]

/-- What a request does to the latched set, the enable mask, the node state and the trip is followed by its lines; the
rest of the Service Handler moves none. -/
theorem State.RunsFormed.serve (r : Request) (k : RequestKind) : (serve k r s).1.RunsFormed := by
  cases k with
  | read => exact h.checked (h.onTable fun t => by split <;> exact h)
  | write =>
    refine h.checked (h.onTable fun t => ?_)
    split
    · exact h
    · split
      exacts [h.formAlert_svc _ rfl, runsFormed_of_terms h rfl]
  | commit =>
    refine h.checked (h.onTable fun t => ?_)
    split
    · exact h
    · split
      exacts [h, runsFormed_of_terms h rfl]
  | discard =>
    refine h.checked (h.onTable fun t => ?_)
    split
    exacts [h, runsFormed_of_terms h rfl]
  | enterConfig => refine h.checked ?_; split_ifs; exacts [h, h, h, h.toConfig]
  | leaveConfig =>
    refine h.checked ?_
    split_ifs
    · exact h
    · exact h
    · exact h
    · split
      exacts [h, runsFormed_of_terms h rfl]
  | store => refine h.checked ?_; split_ifs; exacts [h, h, runsFormed_of_terms h rfl]
  | clearLatched => exact h.checked (h.formAlert_svc _ rfl)
  | clearCauses => exact h.checked (runsFormed_of_terms h rfl)
  | clearCounters => exact h.checked (runsFormed_of_terms h rfl)
  | tripReset => refine h.checked ?_; split_ifs; exacts [h, h, h, h.resetTrip]
  | testTrip => refine h.checked ?_; split_ifs; exacts [h, h.tripArrives _]
  | lineReset => refine h.checked ?_; split_ifs; exacts [h, runsFormed_of_terms h rfl, h]

theorem State.RunsFormed.serveRecord (r : Record) : (serveRecord r s).1.RunsFormed := by
  unfold Machine.serveRecord
  split
  exacts [h, h.serve _ _]

end

theorem State.RunsFormed.serveLane {s : State} (h : s.RunsFormed) (records : List Record) :
    (serveLane records s).1.RunsFormed := by
  induction records generalizing s with
  | nil => exact h
  | cons r rest ih =>
    simp only [Machine.serveLane]
    split
    · split
      exacts [h.serveRecord r, ih (h.serveRecord r)]
    · exact ih h

/-- A request as a command of its own: none is served while LOADING (R161). -/
theorem State.LinesFormed.request {s : State} (h : s.LinesFormed) (k : RequestKind) (r : Request) :
    (s.request (serve k r s)).LinesFormed := by
  unfold State.request
  split
  · exact h
  · next hrun =>
    obtain ⟨-, hserved⟩ := State.RunsFormed.serve ⟨hrun, h⟩ r k
    exact linesFormed_of_terms hserved rfl

/-! #### Frames -/

section
variable {s : State} (h : s.RunsFormed)
include h

/-- What is pending may make the node OPERATE: HEAT_REQUEST follows (R7, R63). -/
theorem State.RunsFormed.applyPending : s.applyPending.RunsFormed := by
  have hrun : s.svc.atCapture.node ≠ .loading := by
    unfold Handler.atCapture
    dsimp only
    split
    exacts [nofun, h.1]
  unfold State.applyPending
  dsimp only
  split
  · have hcleared : s.clearCountersNow.RunsFormed := runsFormed_of_terms h rfl
    exact hcleared.formHeat_svc _ hrun rfl rfl
  · exact h.formHeat_svc _ hrun rfl rfl

theorem State.RunsFormed.judged : s.judged.RunsFormed := by
  obtain ⟨ks, hacted⟩ := judged_acted s
  refine ⟨by rw [hacted.svc]; exact h.applyPending.1, ?_⟩
  unfold State.judged
  split
  exacts [h.applyPending.2.judgeLines, h.applyPending.2]

theorem State.RunsFormed.capture (late : Bool) (number : BitVec 32) (cells : List Cell) (time : Nat) :
    (s.capture late number cells time).RunsFormed := by
  rw [capture_eq]
  exact runsFormed_of_terms h.judged rfl

theorem State.RunsFormed.arrival (number : BitVec 32) (cells : List Cell) (time : Nat) :
    (s.arrival number cells time).RunsFormed := by
  cases hv : s.sup.verdict s.svc.active.comm s.engine.flight.isSome number time with
  | anchoring => rw [State.arrival, hv]; exact (h.latchIf _ _).capture _ _ _ _
  | capture => rw [State.arrival, hv]; exact (h.latchIf _ _).capture _ _ _ _
  | early => rw [arrival_early hv]; exact h.latchFlag _
  | duplicate => rw [arrival_duplicate hv]; exact h
  | overrun => rw [arrival_overrun hv]; exact h.latchFlag _

theorem State.RunsFormed.forward (f : EthFrame) : (s.forward f).RunsFormed :=
  runsFormed_of_terms h (by simp [State.lineTerms])

theorem State.RunsFormed.process (f : LineFrame) (time : Nat) : (s.process f time).RunsFormed := by
  cases hkind : f.kind with
  | cycle =>
    rw [process_cycle s f time hkind]
    exact ((h.arrival _ _ _).serveLane _).forward _
  | service =>
    rw [process_service s f time hkind]
    exact (h.serveLane _).forward _

theorem State.RunsFormed.receive (frame : EthFrame) (time : Nat) : (s.receive frame time).RunsFormed := by
  have hfcs : s.countFcs.RunsFormed := runsFormed_of_terms h rfl
  have hmalformed : s.countMalformed.RunsFormed := runsFormed_of_terms h rfl
  unfold State.receive
  split_ifs
  · exact hfcs.forward frame
  · exact h.forward frame
  · split
    exacts [hmalformed.forward frame, h.process _ time]

end

theorem State.LinesFormed.frameArrival {s : State} (h : s.LinesFormed) (port : Port) (time : Nat) (frame : EthFrame) :
    ∃ t, exec (.frameArrival port time frame) s = .next t ∧ t.LinesFormed := by
  refine ⟨_, rfl, ?_⟩
  cases port with
  | ringOut => exact h.advanceTo time
  | ringIn =>
    dsimp only
    split_ifs with _ hload
    · exact h
    · exact linesFormed_of_terms h (by simp [State.lineTerms])
    · have hrun : s.RunsFormed := ⟨hload, h⟩
      exact ((hrun.advanceTo time).receive frame time).2

/-! ### Every command -/

theorem exec_keeps_linesFormed (c : Instr) (s : State) (h : s.LinesFormed) :
    ∃ t, exec c s = .next t ∧ t.LinesFormed := by
  cases c with
  | powerOn => exact ⟨_, rfl, linesFormed_resetBlocks _ _⟩
  | localReset cut => exact ⟨_, rfl, linesFormed_resetBlocks _ _⟩
  | localResetRelease =>
    refine ⟨_, rfl, ?_⟩
    split
    exacts [h, linesFormed_of_terms h rfl]
  | lineResetTakesEffect =>
    refine ⟨_, rfl, ?_⟩
    split
    exacts [linesFormed_resetBlocks _ _, h]
  | loadEnd =>
    refine ⟨_, rfl, ?_⟩
    split
    exacts [linesFormed_takeLoadEnd s, h]
  | portLinkUp port => exact ⟨_, rfl, h.setLink port true⟩
  | portLinkDown port cut =>
    refine ⟨_, exec_portLinkDown port cut s, ?_⟩
    split
    exacts [(h.cutFrame port).setLink port false, h.setLink port false]
  | frameArrival port time frame => exact h.frameArrival port time frame
  | warnExpiry time =>
    refine ⟨_, exec_warnExpiry time s, ?_⟩
    split
    · refine State.LinesFormed.latchFlag ?_ .linkWarn
      exact linesFormed_of_terms (h.advanceTo time) rfl
    · exact h
  | lossExpiry time =>
    refine ⟨_, exec_lossExpiry time s, ?_⟩
    split
    · refine State.LinesFormed.tripArrives ?_ .link
      exact linesFormed_of_terms (h.advanceTo time) rfl
    · exact h
  | purgeExpiry time =>
    refine ⟨_, exec_purgeExpiry time s, ?_⟩
    split
    exacts [linesFormed_of_terms (h.advanceTo time) rfl, h]
  | speedStage => exact ⟨_, rfl, h.atStage _ _ h.speedStage⟩
  | speedHoldRunOut =>
    refine ⟨_, rfl, h.atStage _ _ fun c => ?_⟩
    split
    exacts [h.speedStage c, h]
  | dryerStep time permit => exact ⟨_, rfl, h.atStage _ _ fun c => (h.advanceTo time).dryerStep c permit⟩
  | permitTimerReached time => exact ⟨_, rfl, h.dryerStepOf _ _ time⟩
  | settleTimerReached time => exact ⟨_, rfl, h.dryerStepOf _ _ time⟩
  | runConfirmReached time => exact ⟨_, rfl, h.dryerStepOf _ _ time⟩
  | holdDelayReached time => exact ⟨_, rfl, h.dryerStepOf _ _ time⟩
  | holdLimitReached time => exact ⟨_, rfl, h.dryerStepOf _ _ time⟩
  | zoneStage time => exact ⟨_, rfl, h.atStage _ _ (h.advanceTo time).zoneStage⟩
  | zoneSensorHoldRunOut zone time =>
    refine ⟨_, rfl, h.atStage _ _ fun c => ?_⟩
    split
    exacts [(h.advanceTo time).zoneStage c, h]
  | exhaustStage time => exact ⟨_, rfl, h.atStage _ _ (h.advanceTo time).exhaustStage⟩
  | lelHoldRunOut time =>
    refine ⟨_, rfl, h.atStage _ _ fun c => ?_⟩
    split
    exacts [(h.advanceTo time).exhaustStage c, h]
  | trackStage => exact ⟨_, rfl, h.atStage _ _ fun _ => linesFormed_of_terms h rfl⟩
  | chillStage => exact ⟨_, rfl, h.atStage _ _ h.chillStage⟩
  | chillSensorHoldRunOut =>
    refine ⟨_, rfl, h.atStage _ _ fun c => ?_⟩
    split
    exacts [h.chillStage c, h]
  | publication => exact ⟨_, rfl, h.atStage _ _ fun _ => linesFormed_of_terms h rfl⟩
  | breakLineLevelChange line high time => exact ⟨_, rfl, h.lineChanged line high time⟩
  | breakLineLevelTaken line time =>
    refine ⟨_, rfl, ?_⟩
    split_ifs
    exacts [h, (h.advanceTo time).takeLevel line, h]
  | storeCompletion written => exact h.storeCompletion written
  | read r => exact ⟨_, rfl, h.request .read r⟩
  | write r => exact ⟨_, rfl, h.request .write r⟩
  | commit r => exact ⟨_, rfl, h.request .commit r⟩
  | discard r => exact ⟨_, rfl, h.request .discard r⟩
  | enterConfig r => exact ⟨_, rfl, h.request .enterConfig r⟩
  | leaveConfig r => exact ⟨_, rfl, h.request .leaveConfig r⟩
  | store r => exact ⟨_, rfl, h.request .store r⟩
  | clearLatched r => exact ⟨_, rfl, h.request .clearLatched r⟩
  | clearCauses r => exact ⟨_, rfl, h.request .clearCauses r⟩
  | clearCounters r => exact ⟨_, rfl, h.request .clearCounters r⟩
  | tripReset r => exact ⟨_, rfl, h.request .tripReset r⟩
  | testTrip r time => exact ⟨_, rfl, (h.advanceTo time).request .testTrip r⟩
  | lineReset r => exact ⟨_, rfl, h.request .lineReset r⟩

/-- Settles O53: the levels are the rules', an empty queue idles, and each command keeps the lines formed. -/
theorem linesStayFormed : Obligations.LinesStayFormed := by
  refine ⟨linesFormed_iff, fun s t h hstep => ?_⟩
  rw [step] at hstep
  split at hstep
  · obtain rfl := Host.Outcome.next.inj hstep
    exact h
  · next c rest _ =>
    obtain ⟨u, hexec, hrest⟩ :=
      exec_keeps_linesFormed c { s with pending := rest } (linesFormed_of_terms h rfl)
    obtain rfl := Host.Outcome.next.inj (hexec.symm.trans hstep)
    exact hrest

end Sys2Proof.Machine
end

section
/-!
SUPPORT. Proofs about the dryer step: what it reads and leaves, the row of Table 4.3 that it takes, and its timers.
-/
namespace Sys2Proof.Machine

/-! ### What the dryer step reads (R44 to R46) -/

theorem Sample.asserted_iff (x : Sample) : x.asserted = true ↔ ∃ v, x = .valid v ∧ v ≠ 0 := by
  cases x <;> simp [Sample.asserted]

theorem modeOutOfRange_iff (x : Sample) : modeOutOfRange x = true ↔ ∃ v, x = .valid v ∧ v ≠ 0 ∧ v ≠ 1 ∧ v ≠ 2 := by
  cases x <;> simp [modeOutOfRange, and_assoc]

theorem takeRequest_eq (s : State) : takeRequest s.engine.samples.modeRequest s.engine.dryer.held = requestNow s := by
  unfold takeRequest requestNow
  cases s.engine.samples.modeRequest <;> simp

/-- What the step reads, BREAK_CELL's trip among what it sees. -/
def State.dryerReads (s : State) (permit : Bool) : DryerInputs :=
  { s.dryerInputs permit with
    seen := s.engine.samples.breakCell.asserted || s.trip.latch || s.trip.tripMark }

theorem dryerReads_seen (s : State) (permit : Bool) : (s.dryerReads permit).seen = true ↔ tripSeen s := by
  simp [State.dryerReads, tripSeen, or_comm, or_left_comm]

theorem dryerInputs_takeBreakCell (s : State) (permit : Bool) :
    (takeBreakCell s).dryerInputs permit = s.dryerReads permit := by
  have hengine : (takeBreakCell s).engine = s.engine := by simp [takeBreakCell]
  have hactive : (takeBreakCell s).svc.active = s.svc.active := by simp [takeBreakCell]
  unfold State.dryerReads State.dryerInputs
  rw [hengine, hactive, takeBreakCell_node]
  unfold takeBreakCell
  cases s.engine.samples.breakCell.asserted <;> simp [State.tripIf]

theorem dryerReads_advanceTo (s : State) (time : Nat) (permit : Bool) :
    (s.advanceTo time).dryerReads permit = s.dryerReads permit := by
  simp [State.dryerReads, State.dryerInputs, State.advanceTo_latch, State.advanceTo_tripMark]

/-! ### The record after the step, and the row it takes (R45, R47) -/

/-- The dryer record as a step with this permit leaves it. -/
def State.dryerAfter (s : State) (permit : Bool) : DryerRec :=
  (s.engine.dryer.step s.engine.samples.modeRequest (s.dryerReads permit)).1

/-- The row of Table 4.3 that a step with this permit takes. -/
def State.dryerRow (s : State) (permit : Bool) : Transition :=
  (s.engine.dryer.step s.engine.samples.modeRequest (s.dryerReads permit)).2

theorem dryerOutcome_advanceTo (s : State) (time : Nat) (permit : Bool) :
    (s.advanceTo time).dryerOutcome permit = (s.dryerAfter permit, s.dryerRow permit) := by
  rw [State.dryerOutcome, dryerInputs_takeBreakCell, dryerReads_advanceTo, State.advanceTo_engine]
  rfl

section
variable (s : State) (permit : Bool)

theorem dryerAfter_state : (s.dryerAfter permit).state = (s.dryerRow permit).target s.engine.dryer.state := rfl

theorem dryerAfter_held : (s.dryerAfter permit).held = requestNow s := takeRequest_eq s

theorem dryerAfter_modeFinding :
    (s.dryerAfter permit).modeFinding =
      if s.engine.samples.modeRequest.isValid then modeOutOfRange s.engine.samples.modeRequest
      else s.engine.dryer.modeFinding := rfl

theorem dryerAfter_retryBlock :
    (s.dryerAfter permit).retryBlock = true ↔
      (s.engine.dryer.retryBlock = true ∧ requestNow s ≠ .off) ∨ s.dryerRow permit = .permitTimedOut := by
  have hblock : (s.dryerAfter permit).retryBlock =
      ((s.engine.dryer.retryBlock
        && takeRequest s.engine.samples.modeRequest s.engine.dryer.held != .off)
        || s.dryerRow permit == .permitTimedOut) := rfl
  rw [hblock, takeRequest_eq]
  simp

theorem dryerAfter_recipeFinding :
    (s.dryerAfter permit).recipeFinding = true ↔
      ((s.dryerAfter permit).state = .ready ∨ (s.dryerAfter permit).state = .hold)
        ∧ (s.dryerAfter permit).held = .produce ∧ s.svc.active.recipeComplete = false := by
  have hfinding : (s.dryerAfter permit).recipeFinding =
      recipeFound (s.dryerAfter permit).state (s.dryerAfter permit).held s.svc.active.recipeComplete := rfl
  rw [hfinding]
  simp [recipeFound, and_assoc]

/-! #### The timers (R48, Table 4.4) -/

theorem dryerAfter_permitTimer :
    (s.dryerAfter permit).permitTimer =
      durationStep s.engine.dryer.permitTimer (s.engine.dryer.state == .preheat && !permit)
        s.svc.active.comm.period := rfl

theorem dryerAfter_settleTimer :
    (s.dryerAfter permit).settleTimer =
      durationStep s.engine.dryer.settleTimer
        (s.engine.dryer.state == .preheat && permit
          && s.svc.active.comm.activeZones.all fun z => (s.engine.zone z).inBand)
        s.svc.active.comm.period := rfl

theorem dryerAfter_runConfirm :
    (s.dryerAfter permit).runConfirm =
      durationStep s.engine.dryer.runConfirm
        ((s.engine.dryer.state == .ready || s.engine.dryer.state == .hold) && requestNow s == .produce
          && s.svc.active.recipeComplete && permit
          && decide (s.svc.active.comm.runThreshold ≤ s.engine.speed.v))
        s.svc.active.comm.period := by
  rw [← takeRequest_eq]
  rfl

theorem dryerAfter_holdDelay :
    (s.dryerAfter permit).holdDelay =
      durationStep s.engine.dryer.holdDelay
        (s.engine.dryer.state == .run && decide (s.engine.speed.v < s.svc.active.comm.creep))
        s.svc.active.comm.period := rfl

theorem dryerAfter_holdLimit :
    (s.dryerAfter permit).holdLimit =
      durationStep s.engine.dryer.holdLimit (s.engine.dryer.state == .hold) s.svc.active.comm.period := rfl

/-! #### The rows, by starting state (Table 4.3) -/

/-- The record that the row is chosen on: the starting state, the request taken, and the timers of this step. -/
def State.dryerStart (s : State) (permit : Bool) : DryerRec :=
  (s.engine.dryer.takeMode s.engine.samples.modeRequest).runTimers (s.dryerReads permit)

theorem dryerRow_eq : s.dryerRow permit = (s.dryerStart permit).transition (s.dryerReads permit) := rfl

theorem dryerStart_state : (s.dryerStart permit).state = s.engine.dryer.state := rfl

theorem dryerStart_held : (s.dryerStart permit).held = requestNow s := takeRequest_eq s

theorem dryerStart_retryBlock :
    (s.dryerStart permit).retryBlock = (s.engine.dryer.retryBlock && requestNow s != .off) := by
  rw [← takeRequest_eq]
  rfl

theorem dryerRow_configured (hnode : s.svc.node = .config) : s.dryerRow permit = .configured := if_pos hnode

variable (hnode : s.svc.node ≠ .config)
include hnode

theorem dryerRow_seen (hseen : tripSeen s) :
    s.dryerRow permit =
      if s.engine.dryer.state = .cold ∨ s.engine.dryer.state = .purge then .tripHeld else .tripped := by
  have hnotConfig : (s.dryerReads permit).node ≠ .config := hnode
  rw [dryerRow_eq, DryerRec.transition, if_neg hnotConfig, if_pos ((dryerReads_seen s permit).2 hseen),
    dryerStart_state]

variable (hfree : ¬ tripSeen s)
include hfree

/-- Past rows 1 to 3 the starting state alone chooses among the rest. -/
theorem dryerRow_free {d : DryerState} (hstate : s.engine.dryer.state = d) :
    s.dryerRow permit =
      ({ s.dryerStart permit with state := d } : DryerRec).transition
        { s.dryerReads permit with node := .operate, seen := false } := by
  have hnotConfig : (s.dryerReads permit).node ≠ .config := hnode
  have hnotSeen : ¬(s.dryerReads permit).seen = true := (dryerReads_seen s permit).not.2 hfree
  rw [dryerRow_eq, DryerRec.transition, if_neg hnotConfig, if_neg hnotSeen, ← hstate]
  rfl

theorem dryerRow_purge (hstate : s.engine.dryer.state = .purge) : s.dryerRow permit = .purged := by
  rw [dryerRow_free s permit hnode hfree hstate]
  rfl

theorem dryerRow_cold (hstate : s.engine.dryer.state = .cold) :
    s.dryerRow permit =
      if requestNow s ≠ .off ∧ s.engine.dryer.retryBlock = false then .started else .stays := by
  have hrow : s.dryerRow permit =
      if (s.dryerStart permit).held ≠ .off ∧ (s.dryerStart permit).retryBlock = false then .started else .stays :=
    dryerRow_free s permit hnode hfree hstate
  rw [hrow, dryerStart_held, dryerStart_retryBlock]
  cases requestNow s <;> simp

theorem dryerRow_preheat (hstate : s.engine.dryer.state = .preheat) :
    s.dryerRow permit =
      if requestNow s = .off then .requestOff
      else if reached (s.dryerAfter permit).permitTimer s.svc.active.comm.permitTimeout then .permitTimedOut
      else if reached (s.dryerAfter permit).settleTimer s.svc.active.comm.settle then .settled
      else .stays := by
  rw [dryerRow_free s permit hnode hfree hstate, ← dryerStart_held s permit]
  rfl

theorem dryerRow_ready (hstate : s.engine.dryer.state = .ready) :
    s.dryerRow permit =
      if requestNow s = .off then .requestOff
      else if permit = false then .permitLost
      else if reached (s.dryerAfter permit).runConfirm s.svc.active.comm.runConfirm then .confirmed
      else .stays := by
  rw [dryerRow_free s permit hnode hfree hstate, ← dryerStart_held s permit]
  rfl

theorem dryerRow_run (hstate : s.engine.dryer.state = .run) :
    s.dryerRow permit =
      if requestNow s = .off then .requestOff
      else if permit = false then .permitLost
      else if requestNow s = .produce ∧ s.svc.active.recipeComplete = false then .recipeGone
      else if requestNow s = .heat then .requestHeat
      else if reached (s.dryerAfter permit).holdDelay s.svc.active.comm.holdDelay then .belowCreep
      else .stays := by
  rw [dryerRow_free s permit hnode hfree hstate, ← dryerStart_held s permit]
  rfl

theorem dryerRow_hold (hstate : s.engine.dryer.state = .hold) :
    s.dryerRow permit =
      if requestNow s = .off then .requestOff
      else if permit = false then .permitLost
      else if reached (s.dryerAfter permit).runConfirm s.svc.active.comm.runConfirm then .confirmed
      else if s.svc.active.comm.holdLimit ≠ 0
          ∧ reached (s.dryerAfter permit).holdLimit s.svc.active.comm.holdLimit = true then .holdLimited
      else .stays := by
  rw [dryerRow_free s permit hnode hfree hstate, ← dryerStart_held s permit]
  simp only [DryerRec.transition, reduceCtorEq, if_false, Bool.false_eq_true]
  rfl

theorem dryerRow_cooldown (hstate : s.engine.dryer.state = .cooldown) :
    s.dryerRow permit =
      if requestNow s ≠ .off then .reheated
      else if s.svc.active.comm.activeZones.all fun z =>
          zoneCool s.svc.active.comm (s.engine.samples.air z) then .cooled
      else .stays := by
  rw [dryerRow_free s permit hnode hfree hstate, ← dryerStart_held s permit]
  rfl

end

/-! #### The rows that latch a flag -/

section
variable (s : State) (permit : Bool)

/-- When the rows with a flag are taken: row 7 where the permit is absent in READY, RUN or HOLD, row 8 where PREHEAT ends
in COLD, row 10 only on PRODUCE without a complete recipe. -/
theorem dryerRow_flags :
    (s.dryerRow permit = .permitLost ↔
        (s.svc.node ≠ .config ∧ ¬ tripSeen s ∧ requestNow s ≠ .off) ∧ permit = false
          ∧ (s.engine.dryer.state = .ready ∨ s.engine.dryer.state = .run ∨ s.engine.dryer.state = .hold))
      ∧ (s.dryerRow permit = .permitTimedOut ↔
        (s.svc.node ≠ .config ∧ ¬ tripSeen s ∧ requestNow s ≠ .off) ∧ s.engine.dryer.state = .preheat
          ∧ (s.dryerAfter permit).state = .cold)
      ∧ (s.dryerRow permit = .recipeGone → requestNow s = .produce ∧ s.svc.active.recipeComplete = false) := by
  rw [dryerAfter_state]
  by_cases hnode : s.svc.node = .config
  · simp [dryerRow_configured s permit hnode, hnode]
  by_cases hseen : tripSeen s
  · rw [dryerRow_seen s permit hnode hseen]
    split <;> simp [hseen]
  cases hstate : s.engine.dryer.state with
  | cold => rw [dryerRow_cold s permit hnode hseen hstate]; split <;> simp
  | purge => simp [dryerRow_purge s permit hnode hseen hstate]
  | preheat => rw [dryerRow_preheat s permit hnode hseen hstate]; split_ifs <;> simp [*, Transition.target]
  | ready => rw [dryerRow_ready s permit hnode hseen hstate]; split_ifs <;> simp [*]
  | run => rw [dryerRow_run s permit hnode hseen hstate]; split_ifs <;> simp [*]
  | hold => rw [dryerRow_hold s permit hnode hseen hstate]; split_ifs <;> simp [*]
  | cooldown => rw [dryerRow_cooldown s permit hnode hseen hstate]; split_ifs <;> simp

/-- Row 10 leaves the recipe finding: HOLD, on PRODUCE, the recipe incomplete (R62). -/
theorem recipeFinding_of_recipeGone (h : s.dryerRow permit = .recipeGone) :
    (s.dryerAfter permit).recipeFinding = true := by
  obtain ⟨-, -, hgone⟩ := dryerRow_flags s permit
  rw [dryerAfter_recipeFinding, dryerAfter_state, h, dryerAfter_held]
  exact ⟨.inr rfl, hgone h⟩

theorem Transition.flag_eq_some (row : Transition) (f : Flag) :
    row.flag = some f ↔
      (f = .permitLost ∧ row = .permitLost) ∨ (f = .permitTimeout ∧ row = .permitTimedOut)
        ∨ (f = .recipeMissing ∧ row = .recipeGone) := by
  cases row <;> simp [Transition.flag, eq_comm]

end

/-! ### The state after the dryer step -/

theorem exec_dryerStep {s : State} {c : Computation} (time : Nat) (permit : Bool) (hflight : s.engine.flight = some c)
    (hstage : c.stage = .dryer) :
    exec (.dryerStep time permit) s = .next (takeDryerStep c permit (s.advanceTo time)) :=
  congrArg Host.Outcome.next (s.atStage_of c .dryer _ hflight hstage)

theorem latchRow_hasFlag (row : Transition) (s : State) (fl : Flag) :
    hasFlag (s.latchRow row).svc.latched fl = true ↔ hasFlag s.svc.latched fl = true ∨ row.flag = some fl := by
  rcases latchRow_spec row s with ⟨hflag, heq⟩ | ⟨f, hflag, heq⟩ <;> rw [heq, hflag]
  · simp
  · rw [State.latchFlag_svc, hasFlag_or_mask, Option.some.injEq, eq_comm (a := f)]

/-- Latching flags moves the latched set and ALERT alone. -/
structure FlagsLatched (s t : State) : Prop where
  frame : ChangesOnly s t [.svc, .pins]
  svc : t.svc = { s.svc with latched := t.svc.latched }
  pins : t.pins = { s.pins with alertLine := t.pins.alertLine }

theorem FlagsLatched.refl (s : State) : FlagsLatched s s := ⟨.refl s _, rfl, rfl⟩

theorem FlagsLatched.trans {s t u : State} (hst : FlagsLatched s t) (htu : FlagsLatched t u) : FlagsLatched s u where
  frame := hst.frame.trans htu.frame
  svc := by rw [htu.svc, hst.svc]
  pins := by rw [htu.pins, hst.pins]

theorem flagsLatched_latchFlag (f : Flag) (s : State) : FlagsLatched s (s.latchFlag f) :=
  ⟨by intro b hb; cases b <;> simp [Block.Same] at hb ⊢, rfl, rfl⟩

theorem flagsLatched_latchIf (c : Bool) (f : Flag) (s : State) : FlagsLatched s (s.latchIf c f) := by
  unfold State.latchIf
  split
  exacts [flagsLatched_latchFlag f s, .refl s]

theorem flagsLatched_latchRow (row : Transition) (s : State) : FlagsLatched s (s.latchRow row) := by
  rcases latchRow_spec row s with ⟨-, heq⟩ | ⟨f, -, heq⟩ <;> rw [heq]
  exacts [.refl s, flagsLatched_latchFlag f s]

theorem takeDryerStep_flagsLatched (c : Computation) (permit : Bool) (s : State) :
    FlagsLatched (steppedDryer c permit s).formHeat (takeDryerStep c permit s) := by
  rw [takeDryerStep_eq]
  exact ((flagsLatched_latchIf _ _ _).trans (flagsLatched_latchRow _ _)).trans (flagsLatched_latchIf _ _ _)

/-! #### BREAK_CELL (R155) -/

theorem takeBreakCell_changesOnly (s : State) : ChangesOnly s (takeBreakCell s) [.trip, .svc, .pins] := by
  intro b hb; cases b <;> simp [Block.Same, takeBreakCell] at hb ⊢

theorem takeBreakCell_svc (s : State) :
    (takeBreakCell s).svc = { s.svc with latched := (takeBreakCell s).svc.latched } := by
  unfold takeBreakCell State.tripIf
  split <;> simp

theorem takeBreakCell_breakCell (s : State) :
    (takeBreakCell s).trip.breakCell = s.engine.samples.breakCell.asserted := by
  simp [takeBreakCell]

/-- An asserted BREAK_CELL trips; the finding itself stands aside of what a trip does. -/
theorem takeBreakCell_trip (s : State) :
    (takeBreakCell s).trip =
      if s.engine.samples.breakCell.asserted then { (s.tripArrives .breakCell).trip with breakCell := true }
      else { s.trip with breakCell := false } := by
  cases hcell : s.engine.samples.breakCell.asserted
  · simp [takeBreakCell, State.tripIf, hcell]
  · cases hlatch : s.trip.latch <;>
      simp [takeBreakCell, State.tripIf, State.tripArrives, hcell, hlatch, TripUnit.latched, TripUnit.retriggered]

theorem takeBreakCell_hasFlag (s : State) (fl : Flag) :
    hasFlag (takeBreakCell s).svc.latched fl = true ↔
      hasFlag s.svc.latched fl = true ∨ (fl = .trip ∧ s.engine.samples.breakCell.asserted = true) := by
  cases hcell : s.engine.samples.breakCell.asserted <;> simp [takeBreakCell, State.tripIf, hcell, hasFlag_or_mask]

theorem tripArrives_breakCell_cause (s : State) : (s.tripArrives .breakCell).trip.causes.getLsbD 4 = true := by
  have hmask : Cause.breakCell.mask.getLsbD 4 = true := by decide
  rw [tripArrives_causes]
  split <;> simp [hmask]

/-! #### The step as a whole -/

section
variable (s : State) (c : Computation) (time : Nat) (permit : Bool)

theorem dryerStepped_engine :
    (takeDryerStep c permit (s.advanceTo time)).engine =
      { s.engine with
        dryer := s.dryerAfter permit
        flight := some { c with stage := .zones, node := s.svc.node, permit := permit } } := by
  have hengine : (takeBreakCell (s.advanceTo time)).engine = (s.advanceTo time).engine :=
    takeBreakCell_changesOnly _ .engine (by decide)
  have hlatched : (takeDryerStep c permit (s.advanceTo time)).engine = _ :=
    (takeDryerStep_flagsLatched c permit (s.advanceTo time)).frame .engine (by decide)
  rw [hlatched, State.formHeat_engine, steppedDryer]
  simp only [hengine, takeBreakCell_node, dryerOutcome_advanceTo, State.advanceTo_engine, State.advanceTo_svc]

theorem dryerStepped_dryer : (takeDryerStep c permit (s.advanceTo time)).engine.dryer = s.dryerAfter permit := by
  rw [dryerStepped_engine]

theorem dryerStepped_trip :
    (takeDryerStep c permit (s.advanceTo time)).trip =
      { (takeBreakCell (s.advanceTo time)).trip with tripMark := false } :=
  (takeDryerStep_flagsLatched c permit (s.advanceTo time)).frame .trip (by decide)

theorem dryerStepped_svc :
    (takeDryerStep c permit (s.advanceTo time)).svc =
      { s.svc with latched := (takeDryerStep c permit (s.advanceTo time)).svc.latched } := by
  have hbreak : (steppedDryer c permit (s.advanceTo time)).formHeat.svc = _ := takeBreakCell_svc (s.advanceTo time)
  rw [(takeDryerStep_flagsLatched c permit (s.advanceTo time)).svc, hbreak, State.advanceTo_svc]

theorem dryerStepped_changesOnly :
    ChangesOnly (s.advanceTo time) (takeDryerStep c permit (s.advanceTo time)) [.engine, .trip, .svc, .pins] := by
  have hstepped : ChangesOnly (takeBreakCell (s.advanceTo time))
      (steppedDryer c permit (s.advanceTo time)).formHeat [.engine, .trip, .pins] := by
    intro b hb; cases b <;> simp [Block.Same, steppedDryer] at hb ⊢
  exact (((takeBreakCell_changesOnly _).mono (by simp)).trans (hstepped.mono (by simp))).trans
    ((takeDryerStep_flagsLatched c permit _).frame.mono (by simp))

/-- HEAT_REQUEST of the new state, the trip mark being clear (R63). -/
theorem dryerStepped_heatRequest :
    (takeDryerStep c permit (s.advanceTo time)).pins.heatRequest =
      ((s.dryerAfter permit).state.heated && s.svc.node == .operate
        && !(takeDryerStep c permit (s.advanceTo time)).trip.latch) := by
  have hlevel : (steppedDryer c permit (s.advanceTo time)).formHeat.pins.heatRequest =
      (((s.advanceTo time).dryerOutcome permit).1.state.heated
        && (takeBreakCell (s.advanceTo time)).svc.node == .operate
        && !(takeBreakCell (s.advanceTo time)).trip.latch && true) := rfl
  rw [(takeDryerStep_flagsLatched c permit (s.advanceTo time)).pins, dryerStepped_trip, hlevel, dryerOutcome_advanceTo,
    takeBreakCell_node, State.advanceTo_svc, Bool.and_true]

/-- The flags latched by the step: BREAK_CELL's trip, MODE_INVALID, the row's, and the recipe finding's. -/
theorem dryerStepped_hasFlag (fl : Flag) :
    hasFlag (takeDryerStep c permit (s.advanceTo time)).svc.latched fl = true ↔
      (((hasFlag s.svc.latched fl = true ∨ (fl = .trip ∧ s.engine.samples.breakCell.asserted = true))
        ∨ (fl = .modeInvalid ∧ modeOutOfRange s.engine.samples.modeRequest = true))
        ∨ (s.dryerRow permit).flag = some fl)
        ∨ (fl = .recipeMissing ∧ (s.dryerAfter permit).recipeFinding = true) := by
  have hbreak := takeBreakCell_hasFlag (s.advanceTo time) fl
  rw [State.advanceTo_svc, State.advanceTo_engine] at hbreak
  have hstepped : (steppedDryer c permit (s.advanceTo time)).formHeat.svc = (takeBreakCell (s.advanceTo time)).svc :=
    rfl
  rw [takeDryerStep_eq, latchDryerFlags, latchIf_hasFlag, latchRow_hasFlag, latchIf_hasFlag, hstepped, hbreak,
    dryerOutcome_advanceTo, State.advanceTo_engine]

end

/-- The retry block: cleared by OFF, set by a permit timeout alone (R51). -/
theorem dryerAfter_retryBlock_iff (s : State) (permit : Bool) :
    (s.dryerAfter permit).retryBlock = true ↔ requestNow s ≠ .off
      ∧ (s.engine.dryer.retryBlock = true
        ∨ ((s.svc.node ≠ .config ∧ ¬ tripSeen s ∧ requestNow s ≠ .off) ∧ s.engine.dryer.state = .preheat
          ∧ (s.dryerAfter permit).state = .cold)) := by
  obtain ⟨-, htimedOut, -⟩ := dryerRow_flags s permit
  rw [dryerAfter_retryBlock, htimedOut]
  tauto

/-- A VALID request sets the mode finding, and no other leaves a new one (R44). -/
theorem dryerAfter_modeFinding_valid (s : State) (permit : Bool) {v : Int}
    (hvalid : s.engine.samples.modeRequest = .valid v) :
    (s.dryerAfter permit).modeFinding = true ↔ v ≠ 0 ∧ v ≠ 1 ∧ v ≠ 2 := by
  rw [dryerAfter_modeFinding, hvalid, Sample.isValid, if_pos rfl, modeOutOfRange_iff]
  simp

theorem dryerAfter_modeFinding_silent (s : State) (permit : Bool)
    (hsilent : ∀ v, s.engine.samples.modeRequest ≠ .valid v) :
    (s.dryerAfter permit).modeFinding = s.engine.dryer.modeFinding := by
  rw [dryerAfter_modeFinding, (Sample.isValid_eq_false_iff _).2 hsilent, if_neg Bool.false_ne_true]

/-- The flags after the step are those of R155, R44, R62 and of rows 7 and 8; row 10's is the recipe finding's. -/
theorem dryerStepped_flags (s : State) (c : Computation) (time : Nat) (permit : Bool) (fl : Flag) :
    hasFlag (takeDryerStep c permit (s.advanceTo time)).svc.latched fl = true ↔
      hasFlag s.svc.latched fl = true
        ∨ (fl = .trip ∧ s.engine.samples.breakCell.asserted = true)
        ∨ (fl = .modeInvalid ∧ modeOutOfRange s.engine.samples.modeRequest = true)
        ∨ (fl = .recipeMissing ∧ (s.dryerAfter permit).recipeFinding = true)
        ∨ (fl = .permitLost ∧ s.dryerRow permit = .permitLost)
        ∨ (fl = .permitTimeout ∧ s.dryerRow permit = .permitTimedOut) := by
  have hgone := recipeFinding_of_recipeGone s permit
  rw [dryerStepped_hasFlag, Transition.flag_eq_some]
  tauto

/-- Settles O22: the record, the trip, the flags and HEAT_REQUEST as the step leaves them. -/
theorem dryerStepReadsOnce : Obligations.DryerStepReadsOnce := by
  refine ⟨DryerState.heated_iff, Sample.asserted_iff, fun s c time permit hflight hstage =>
    ⟨_, exec_dryerStep time permit hflight hstage, ?_⟩⟩
  obtain ⟨hlost, htimedOut, -⟩ := dryerRow_flags s permit
  have htrip := dryerStepped_trip s c time permit
  have hbreak := takeBreakCell_trip (s.advanceTo time)
  have hcell : (takeDryerStep c permit (s.advanceTo time)).trip.breakCell = s.engine.samples.breakCell.asserted := by
    rw [htrip]
    simp [takeBreakCell_breakCell]
  rw [State.advanceTo_engine] at hbreak
  dsimp only
  simp only [dryerStepped_dryer, hcell]
  refine ⟨Sample.asserted_iff _, fun hasserted => ?_, fun hsilent => ?_, by rw [htrip], dryerAfter_held s permit,
    fun v => dryerAfter_modeFinding_valid s permit, dryerAfter_modeFinding_silent s permit,
    dryerAfter_retryBlock_iff s permit, dryerAfter_recipeFinding s permit, fun fl => ?_,
    dryerStepped_engine s c time permit, dryerStepped_heatRequest s c time permit, dryerStepped_svc s c time permit,
    dryerStepped_changesOnly s c time permit⟩
  · rw [htrip, hbreak, if_pos hasserted]
    exact ⟨State.tripArrives_latch _ _, tripArrives_breakCell_cause _, rfl⟩
  · rw [htrip, hbreak, hsilent, if_neg Bool.false_ne_true]
  · rw [dryerStepped_flags, modeOutOfRange_iff, hlost, htimedOut]

/-! ### The transitions of the dryer step (Table 4.3) -/

theorem reached_iff (t : Option Nat) (setting : Nat) : reached t setting = true ↔ timerReached t setting := by
  cases t <;> simp [reached, timerReached]

/-- What holds of every active zone (R68). -/
theorem activeZones_all (m : Commissioning) (p : Nat → Bool) :
    m.activeZones.all p = true ↔ ∀ z < 6, z < m.zoneCount → p z = true := by
  simp only [List.all_eq_true, mem_activeZones, and_imp]

/-- What holds of every active roll. -/
theorem activeRolls_all (m : Commissioning) (p : Nat → Bool) :
    m.activeRolls.all p = true ↔ ∀ r < 8, r < m.rollCount → p r = true := by
  simp only [List.all_eq_true, Commissioning.activeRolls, List.mem_filter, List.mem_range, Commissioning.rollActive,
    decide_eq_true_eq, and_imp]

theorem recipeComplete_iff (tb : Tables) :
    tb.recipeComplete = true ↔
      (∀ z < 6, z < tb.comm.zoneCount → 1 ≤ tb.recipe.zonePoints z) ∧ 1 ≤ tb.recipe.exhaustPoints
        ∧ (∀ r < 8, r < tb.comm.rollCount → 1 ≤ tb.recipe.rollPoints r) ∧ tb.recipe.doseTag ≠ 0 := by
  simp only [Tables.recipeComplete, Bool.and_eq_true, activeZones_all, activeRolls_all, decide_eq_true_eq, and_assoc]

theorem zoneCool_iff (m : Commissioning) (x : Sample) :
    zoneCool m x = true ↔ ∃ a, x = .valid a ∧ a < m.coolLimit := by
  cases x <;> simp [zoneCool]

/-! #### The new state, by starting state -/

section
variable {s : State} {permit : Bool} (hnode : s.svc.node ≠ .config)
include hnode

/-- Rows 2 and 3: a trip seen leads to PURGE, but leaves COLD and PURGE. -/
theorem dryerAfter_state_seen (hseen : tripSeen s) :
    (s.engine.dryer.state = .cold → (s.dryerAfter permit).state = .cold)
      ∧ (s.engine.dryer.state ≠ .cold → (s.dryerAfter permit).state = .purge) := by
  rw [dryerAfter_state, dryerRow_seen s permit hnode hseen]
  refine ⟨fun hcold => by rw [if_pos (.inl hcold)]; exact hcold, fun hcold => ?_⟩
  split
  · next hheld => exact hheld.resolve_left hcold
  · rfl

variable (hfree : ¬ tripSeen s)
include hfree

theorem dryerAfter_state_cold (hstate : s.engine.dryer.state = .cold) :
    (s.dryerAfter permit).state =
      if requestNow s ≠ .off ∧ s.engine.dryer.retryBlock = false then .preheat else .cold := by
  rw [dryerAfter_state, dryerRow_cold s permit hnode hfree hstate, hstate]
  split_ifs <;> rfl

theorem dryerAfter_state_preheat (hstate : s.engine.dryer.state = .preheat) :
    (s.dryerAfter permit).state =
      if requestNow s = .off then .cooldown
      else if reached (s.dryerAfter permit).permitTimer s.svc.active.comm.permitTimeout then .cold
      else if reached (s.dryerAfter permit).settleTimer s.svc.active.comm.settle then .ready
      else .preheat := by
  rw [dryerAfter_state, dryerRow_preheat s permit hnode hfree hstate, hstate]
  split_ifs <;> rfl

theorem dryerAfter_state_ready (hstate : s.engine.dryer.state = .ready) :
    (s.dryerAfter permit).state =
      if requestNow s = .off then .cooldown
      else if permit = false then .preheat
      else if reached (s.dryerAfter permit).runConfirm s.svc.active.comm.runConfirm then .run
      else .ready := by
  rw [dryerAfter_state, dryerRow_ready s permit hnode hfree hstate, hstate]
  split_ifs <;> rfl

theorem dryerAfter_state_run (hstate : s.engine.dryer.state = .run) :
    (s.dryerAfter permit).state =
      if requestNow s = .off then .cooldown
      else if permit = false then .preheat
      else if requestNow s = .produce ∧ s.svc.active.recipeComplete = false then .hold
      else if requestNow s = .heat then .hold
      else if reached (s.dryerAfter permit).holdDelay s.svc.active.comm.holdDelay then .hold
      else .run := by
  rw [dryerAfter_state, dryerRow_run s permit hnode hfree hstate, hstate]
  split_ifs <;> rfl

theorem dryerAfter_state_hold (hstate : s.engine.dryer.state = .hold) :
    (s.dryerAfter permit).state =
      if requestNow s = .off then .cooldown
      else if permit = false then .preheat
      else if reached (s.dryerAfter permit).runConfirm s.svc.active.comm.runConfirm then .run
      else if s.svc.active.comm.holdLimit ≠ 0
          ∧ reached (s.dryerAfter permit).holdLimit s.svc.active.comm.holdLimit = true then .ready
      else .hold := by
  rw [dryerAfter_state, dryerRow_hold s permit hnode hfree hstate, hstate]
  split_ifs <;> rfl

theorem dryerAfter_state_cooldown (hstate : s.engine.dryer.state = .cooldown) :
    (s.dryerAfter permit).state =
      if requestNow s ≠ .off then .preheat
      else if s.svc.active.comm.activeZones.all fun z =>
          zoneCool s.svc.active.comm (s.engine.samples.air z) then .cold
      else .cooldown := by
  rw [dryerAfter_state, dryerRow_cooldown s permit hnode hfree hstate, hstate]
  split_ifs <;> rfl

/-- Row 6, from every heated state. -/
theorem dryerAfter_state_off (hheated : s.engine.dryer.state.heated = true) (hoff : requestNow s = .off) :
    (s.dryerAfter permit).state = .cooldown := by
  rcases (DryerState.heated_iff _).1 hheated with hstate | hstate | hstate | hstate
  · rw [dryerAfter_state_preheat hnode hfree hstate, if_pos hoff]
  · rw [dryerAfter_state_ready hnode hfree hstate, if_pos hoff]
  · rw [dryerAfter_state_run hnode hfree hstate, if_pos hoff]
  · rw [dryerAfter_state_hold hnode hfree hstate, if_pos hoff]

/-- Row 7, from READY, RUN and HOLD. -/
theorem dryerRow_permitLost (hheated : s.engine.dryer.state.heated = true) (hstate : s.engine.dryer.state ≠ .preheat)
    (hrequest : requestNow s ≠ .off) (habsent : permit = false) : s.dryerRow permit = .permitLost := by
  obtain ⟨hlost, -, -⟩ := dryerRow_flags s permit
  exact hlost.2 ⟨⟨hnode, hfree, hrequest⟩, habsent, ((DryerState.heated_iff _).1 hheated).resolve_left hstate⟩

/-- Row 16 waits for every active zone to be cool (R58). -/
theorem dryerAfter_state_cools (hstate : s.engine.dryer.state = .cooldown) (hoff : requestNow s = .off) :
    ((∀ z < 6, z < s.svc.active.comm.zoneCount →
        ∃ a, s.engine.samples.air z = .valid a ∧ a < s.svc.active.comm.coolLimit) → (s.dryerAfter permit).state = .cold)
      ∧ ∀ z < 6, z < s.svc.active.comm.zoneCount →
        (∀ a, s.engine.samples.air z = .valid a → (s.svc.active.comm.coolLimit : Int) ≤ a) →
        (s.dryerAfter permit).state = .cooldown := by
  have hcools := activeZones_all s.svc.active.comm fun z => zoneCool s.svc.active.comm (s.engine.samples.air z)
  simp only [zoneCool_iff] at hcools
  rw [dryerAfter_state_cooldown hnode hfree hstate, if_neg (not_not.2 hoff)]
  refine ⟨fun hcool => if_pos (hcools.2 hcool), fun z hz hactive hwarm => if_neg fun hcool => ?_⟩
  obtain ⟨a, hair, hbelow⟩ := hcools.1 hcool z hz hactive
  exact absurd (hwarm a hair) (not_le.2 hbelow)

end

/-- Settles O23: each starting state follows the first of its rows that holds. -/
theorem dryerStepTakesItsRow : Obligations.DryerStepTakesItsRow := by
  refine ⟨fun s c time permit hflight hstage => ⟨_, exec_dryerStep time permit hflight hstage, ?_⟩,
    fun s c time permit hflight hstage hnode hfree => ⟨_, exec_dryerStep time permit hflight hstage, ?_⟩,
    recipeComplete_iff⟩
  · rw [dryerStepped_dryer]
    refine ⟨fun hconfig => ?_, dryerAfter_state_seen, fun hnode hfree hpurge => ?_⟩
    · rw [dryerAfter_state, dryerRow_configured s permit hconfig]
      rfl
    · rw [dryerAfter_state, dryerRow_purge s permit hnode hfree hpurge]
      rfl
  · obtain ⟨-, htimedOut, -⟩ := dryerRow_flags s permit
    dsimp only
    simp only [dryerStepped_dryer, dryerStepped_flags, ← reached_iff]
    refine ⟨dryerAfter_held s permit, dryerAfter_state_cold hnode hfree, dryerAfter_state_off hnode hfree,
      fun hstate hrequest => ?_, fun hheated hstate hrequest hpermit => ?_, fun hstate hrequest hpermit => ?_,
      fun hstate hpermit => ?_, fun hstate hrequest hpermit => ?_, fun hstate => ⟨fun hrequest => ?_, fun hoff => ?_⟩⟩
    · have hnew := dryerAfter_state_preheat (permit := permit) hnode hfree hstate
      rw [if_neg hrequest] at hnew
      refine ⟨fun htimer => ?_, fun htimer hsettle => ?_, fun htimer hsettle => ?_⟩
      · rw [if_pos htimer] at hnew
        exact ⟨hnew, by simp [htimedOut, hnode, hfree, hrequest, hstate, hnew]⟩
      · rw [hnew, if_neg htimer, if_pos hsettle]
      · rw [hnew, if_neg htimer, if_neg hsettle]
    · have hrow := dryerRow_permitLost hnode hfree hheated hstate hrequest hpermit
      rw [dryerAfter_state, hrow]
      exact ⟨rfl, by simp⟩
    · rw [dryerAfter_state_ready hnode hfree hstate, if_neg hrequest, if_neg (by simp [hpermit])]
      exact ⟨fun hconfirm => if_pos hconfirm, fun hconfirm => if_neg hconfirm⟩
    · have hnew := dryerAfter_state_run (permit := permit) hnode hfree hstate
      refine ⟨fun hproduce hrecipe => ?_, fun hheat => ?_, fun hproduce hrecipe => ?_⟩
      · have hhold : (s.dryerAfter permit).state = .hold := by rw [hnew]; simp [hproduce, hpermit, hrecipe]
        have hfinding : (s.dryerAfter permit).recipeFinding = true :=
          (dryerAfter_recipeFinding s permit).2 ⟨.inr hhold, (dryerAfter_held s permit).trans hproduce, hrecipe⟩
        exact ⟨hhold, by simp [hfinding]⟩
      · rw [hnew]; simp [hheat, hpermit]
      · rw [hnew]
        simp only [hproduce, hpermit, hrecipe, reduceCtorEq, Bool.true_eq_false, and_false, if_false]
        exact ⟨fun hdelay => if_pos hdelay, fun hdelay => if_neg hdelay⟩
    · rw [dryerAfter_state_hold hnode hfree hstate, if_neg hrequest, if_neg (by simp [hpermit])]
      refine ⟨fun hconfirm => if_pos hconfirm, fun hconfirm => ?_⟩
      rw [if_neg hconfirm]
      exact ⟨fun hlimit htimer => if_pos ⟨hlimit, htimer⟩, fun hno => if_neg (by tauto)⟩
    · rw [dryerAfter_state_cooldown hnode hfree hstate, if_pos hrequest]
    · exact dryerAfter_state_cools hnode hfree hstate hoff

/-! ### The dryer timers (R37, R48, Table 4.4) -/

/-- A duration timer follows R37, whatever proposition its condition stands for. -/
theorem timerUpdated_durationStep (old : Option Nat) (period : Nat) {runs : Bool} {P : Prop} (h : runs = true ↔ P) :
    timerUpdated old (durationStep old runs period) period P := by
  refine ⟨fun hP hold => ?_, fun hP e hold => ?_, fun hP => if_neg (h.not.2 hP)⟩
  · rw [h.2 hP, hold]
    rfl
  · rw [h.2 hP, hold]
    rfl

theorem reached_running (old : Option Nat) (period setting : Nat) :
    reached (durationStep old true period) setting = true ↔ setting ≤ timerNow old period := by
  cases old <;> simp [durationStep, reached, timerNow, advanceTimer, timerMax]

theorem not_reached_none (setting : Nat) : ¬reached none setting = true := Bool.false_ne_true

/-! #### The rows that a timer brings about (rows 8, 9, 12, 13 and 14) -/

section
variable {s : State} (hnode : s.svc.node ≠ .config) (hfree : ¬ tripSeen s)
include hnode hfree

theorem dryerRow_of_holdDelay (hstate : s.engine.dryer.state = .run) (hproduce : requestNow s = .produce)
    (hrecipe : s.svc.active.recipeComplete = true) (hspeed : s.engine.speed.v < s.svc.active.comm.creep)
    (htimer : s.svc.active.comm.holdDelay ≤ timerNow s.engine.dryer.holdDelay s.svc.active.comm.period) :
    s.dryerRow true = .belowCreep := by
  have hreached : reached (s.dryerAfter true).holdDelay s.svc.active.comm.holdDelay = true := by
    rw [dryerAfter_holdDelay, hstate, decide_eq_true hspeed]
    exact (reached_running _ _ _).2 htimer
  rw [dryerRow_run s true hnode hfree hstate]
  simp [hproduce, hrecipe, hreached]

variable (hrequest : requestNow s ≠ .off)
include hrequest

theorem dryerRow_of_permitTimer (hstate : s.engine.dryer.state = .preheat)
    (htimer : s.svc.active.comm.permitTimeout ≤ timerNow s.engine.dryer.permitTimer s.svc.active.comm.period) :
    s.dryerRow false = .permitTimedOut := by
  have hreached : reached (s.dryerAfter false).permitTimer s.svc.active.comm.permitTimeout = true := by
    rw [dryerAfter_permitTimer, hstate]
    exact (reached_running _ _ _).2 htimer
  rw [dryerRow_preheat s false hnode hfree hstate, if_neg hrequest, if_pos hreached]

/-- With the permit present the permit timer is stopped, so that row 8 does not come first. -/
theorem dryerRow_of_settleTimer (hstate : s.engine.dryer.state = .preheat)
    (hband : ∀ z ∈ s.svc.active.comm.activeZones, (s.engine.zone z).inBand = true)
    (htimer : s.svc.active.comm.settle ≤ timerNow s.engine.dryer.settleTimer s.svc.active.comm.period) :
    s.dryerRow true = .settled := by
  have hall : (s.svc.active.comm.activeZones.all fun z => (s.engine.zone z).inBand) = true :=
    List.all_eq_true.2 hband
  have hreached : reached (s.dryerAfter true).settleTimer s.svc.active.comm.settle = true := by
    rw [dryerAfter_settleTimer, hstate, hall]
    exact (reached_running _ _ _).2 htimer
  have hstopped : (s.dryerAfter true).permitTimer = none := by
    rw [dryerAfter_permitTimer, Bool.not_true, Bool.and_false]
    rfl
  rw [dryerRow_preheat s true hnode hfree hstate, if_neg hrequest, hstopped, if_neg (not_reached_none _),
    if_pos hreached]

theorem dryerRow_of_runConfirm (hstate : s.engine.dryer.state = .ready ∨ s.engine.dryer.state = .hold)
    (hproduce : requestNow s = .produce) (hrecipe : s.svc.active.recipeComplete = true)
    (hspeed : s.svc.active.comm.runThreshold ≤ s.engine.speed.v)
    (htimer : s.svc.active.comm.runConfirm ≤ timerNow s.engine.dryer.runConfirm s.svc.active.comm.period) :
    s.dryerRow true = .confirmed := by
  have hstarts : (s.engine.dryer.state == .ready || s.engine.dryer.state == .hold) = true := by simpa using hstate
  have hreached : reached (s.dryerAfter true).runConfirm s.svc.active.comm.runConfirm = true := by
    rw [dryerAfter_runConfirm, hstarts, hproduce, hrecipe, decide_eq_true hspeed]
    exact (reached_running _ _ _).2 htimer
  rcases hstate with hready | hhold
  · rw [dryerRow_ready s true hnode hfree hready, if_neg hrequest, if_neg Bool.true_eq_false.mp, if_pos hreached]
  · rw [dryerRow_hold s true hnode hfree hhold, if_neg hrequest, if_neg Bool.true_eq_false.mp, if_pos hreached]

/-- On HEAT, or below the run threshold, run confirm is stopped, so that row 13 does not come first. -/
theorem dryerRow_of_holdLimit (hstate : s.engine.dryer.state = .hold)
    (hcause : requestNow s = .heat ∨ s.engine.speed.v < s.svc.active.comm.runThreshold)
    (hlimit : s.svc.active.comm.holdLimit ≠ 0)
    (htimer : s.svc.active.comm.holdLimit ≤ timerNow s.engine.dryer.holdLimit s.svc.active.comm.period) :
    s.dryerRow true = .holdLimited := by
  have hreached : reached (s.dryerAfter true).holdLimit s.svc.active.comm.holdLimit = true := by
    rw [dryerAfter_holdLimit, hstate]
    exact (reached_running _ _ _).2 htimer
  have hstopped : (s.dryerAfter true).runConfirm = none := by
    rw [dryerAfter_runConfirm]
    rcases hcause with hheat | hslow
    · simp [durationStep, hheat]
    · simp [durationStep, hslow]
  rw [dryerRow_hold s true hnode hfree hstate, if_neg hrequest, if_neg Bool.true_eq_false.mp, hstopped,
    if_neg (not_reached_none _), if_pos ⟨hlimit, hreached⟩]

end

/-- A command named by a timer is the dryer step where that step takes the timer's row (assumption 9). -/
theorem exec_of_dryerRow {s : State} {c : Computation} {row : Transition} {permit : Bool} {command : Instr} {time : Nat}
    (hexec : exec command s = .next (dryerStepOf row permit time s)) (hflight : s.engine.flight = some c)
    (hstage : c.stage = .dryer) (hrow : s.dryerRow permit = row) :
    exec command s = .next (takeDryerStep c permit (s.advanceTo time))
      ∧ exec (.dryerStep time permit) s = .next (takeDryerStep c permit (s.advanceTo time))
      ∧ (takeDryerStep c permit (s.advanceTo time)).engine.dryer.state = row.target s.engine.dryer.state := by
  refine ⟨?_, exec_dryerStep time permit hflight hstage, ?_⟩
  · rw [hexec, dryerStepOf, s.atStage_of c .dryer _ hflight hstage, dryerOutcome_advanceTo, if_pos hrow]
  · rw [dryerStepped_dryer, dryerAfter_state, hrow]

/-- Settles O24: each timer by its condition, and each reached timer by the row it brings about. -/
theorem dryerTimersReached : Obligations.DryerTimersReached := by
  refine ⟨fun s c time permit hflight hstage => ⟨_, exec_dryerStep time permit hflight hstage, ?_⟩,
    fun s c time hflight hstage hnode hfree hrequest => ⟨fun hstate htimer => ?_, fun hstate hband htimer => ?_,
      fun hstate hproduce hrecipe hspeed htimer => ?_, fun hstate hproduce hrecipe hspeed htimer => ?_,
      fun hstate hcause hlimit htimer => ?_⟩⟩
  · dsimp only
    rw [dryerStepped_dryer, dryerAfter_permitTimer, dryerAfter_settleTimer, dryerAfter_runConfirm, dryerAfter_holdDelay,
      dryerAfter_holdLimit]
    refine ⟨timerUpdated_durationStep _ _ ?_, timerUpdated_durationStep _ _ ?_, timerUpdated_durationStep _ _ ?_,
      timerUpdated_durationStep _ _ ?_, timerUpdated_durationStep _ _ ?_⟩
    · simp
    · rw [Bool.and_eq_true, Bool.and_eq_true, activeZones_all, beq_iff_eq, and_assoc]
    · simp [and_assoc]
    · simp
    · simp
  · have hrow := dryerRow_of_permitTimer hnode hfree hrequest hstate htimer
    obtain ⟨hexec, hstep, hcold⟩ := exec_of_dryerRow (command := .permitTimerReached time) rfl hflight hstage hrow
    refine ⟨_, hexec, hstep, hcold, ?_, ?_⟩
    · rw [dryerStepped_dryer, dryerAfter_retryBlock]
      exact .inr hrow
    · simp [dryerStepped_flags, hrow]
  · exact ⟨_, exec_of_dryerRow (command := .settleTimerReached time) rfl hflight hstage
      (dryerRow_of_settleTimer hnode hfree hrequest hstate hband htimer)⟩
  · exact ⟨_, exec_of_dryerRow (command := .runConfirmReached time) rfl hflight hstage
      (dryerRow_of_runConfirm hnode hfree hrequest hstate hproduce hrecipe hspeed htimer)⟩
  · exact ⟨_, exec_of_dryerRow (command := .holdDelayReached time) rfl hflight hstage
      (dryerRow_of_holdDelay hnode hfree hstate hproduce hrecipe hspeed htimer)⟩
  · exact ⟨_, exec_of_dryerRow (command := .holdLimitReached time) rfl hflight hstage
      (dryerRow_of_holdLimit hnode hfree hrequest hstate hcause hlimit htimer)⟩

end Sys2Proof.Machine
end

section
/-!
SUPPORT. Proofs about stage 3: the step of one zone by Table 5.2, what the stage leaves of each zone and of the rest,
and over-temperature.
-/
namespace Sys2Proof.Machine

/-! ### Clamps, slew and curves of a zone (R34, R78, R80, Tables 5.4 and 5.5) -/

theorem clamp_eq {a b : Int} (x : Int) (h : a ≤ b) : clamp x a b = max a (min x b) := by
  unfold clamp
  split_ifs <;> omega

section
variable {s t : Int} (up down : Int)

theorem slew_rising (h : s < t) : slew s t up down = min (s + up) t := if_pos h

theorem slew_falling (h : t < s) : slew s t up down = max (s - down) t := by
  rw [slew, if_neg (by omega), if_pos h]

theorem slew_reached (h : s = t) : slew s t up down = s := by
  rw [slew, if_neg (by omega), if_neg (by omega)]

end

theorem ZoneInputs.targetAir_heated {i : ZoneInputs} (h : i.dryer.heated = true) :
    i.targetAir =
      if i.dryer = .run then max 0 (min (i.curve 1) (i.tables.comm.maxAir i.zone))
      else if i.dryer = .hold then min (i.tables.comm.holdAir i.zone : Int) (i.tables.comm.maxAir i.zone)
      else min (i.tables.comm.standbyAir i.zone : Int) (i.tables.comm.maxAir i.zone) := by
  rcases (DryerState.heated_iff _).1 h with hd | hd | hd | hd <;>
    simp [ZoneInputs.targetAir, hd, clamp_zero]

theorem ZoneInputs.baseFire_eq (i : ZoneInputs) :
    i.baseFire = if i.dryer = .run then max 0 (min (i.curve 3) (i.tables.comm.maxFire i.zone)) else 0 := by
  cases hd : i.dryer <;> simp [ZoneInputs.baseFire, hd, clamp_zero]

theorem ZoneInputs.fan_cold (i : ZoneInputs) (h : i.dryer = .cold) : i.fan = 0 := by simp [ZoneInputs.fan, h]

theorem ZoneInputs.fan_purge (i : ZoneInputs) (h : i.dryer = .purge) : i.fan = i.tables.comm.purgeFan i.zone := by
  simp [ZoneInputs.fan, h]

theorem ZoneInputs.fan_cooldown (i : ZoneInputs) (h : i.dryer = .cooldown) : i.fan = i.tables.comm.coolFan i.zone := by
  simp [ZoneInputs.fan, h]

section
variable (i : ZoneInputs) (hmin : i.tables.comm.fanMin i.zone ≤ 10000)
include hmin

theorem ZoneInputs.fan_standby (h : i.dryer = .preheat ∨ i.dryer = .ready ∨ i.dryer = .hold) :
    i.fan = max (i.tables.comm.fanMin i.zone : Int) (min (i.tables.comm.standbyFan i.zone : Int) 10000) := by
  rw [← clamp_eq _ (by omega)]
  rcases h with h | h | h <;> simp [ZoneInputs.fan, h]

theorem ZoneInputs.fan_run (h : i.dryer = .run) :
    i.fan = max (i.tables.comm.fanMin i.zone : Int) (min (i.curve 2) 10000) := by
  rw [← clamp_eq _ (by omega)]
  simp [ZoneInputs.fan, h]

end

theorem ZoneInputs.withinBand_iff (i : ZoneInputs) (air : Int) :
    i.withinBand air = true ↔ |i.targetAir - air| ≤ (i.tables.comm.band i.zone : Int) := by
  simp only [ZoneInputs.withinBand, Bool.and_eq_true, decide_eq_true_eq, abs_le]
  omega

/-! ### The step of one zone (R69 to R76, R83, Table 5.2) -/

theorem Sample.isValid_iff (x : Sample) : x.isValid = true ↔ ∃ v, x = .valid v := by
  cases x <;> simp [Sample.isValid]

theorem ZoneState.controlling_iff (x : ZoneState) :
    x.controlling = true ↔ x = .firing ∨ x = .limited ∨ x = .holding := by cases x <;> simp [ZoneState.controlling]

section
variable (r : ZoneRec) {i : ZoneInputs}

/-- Table 5.2, its rows for a zone of a dryer that is not heated, and of one without the permit. -/
theorem ZoneRec.step_unheated (h : i.dryer.heated = false) : r.step i = r.atRest i .off := if_pos h

theorem ZoneRec.step_unpermitted (hheated : i.dryer.heated = true) (hpermit : i.permit = false) :
    r.step i = r.atRest i .blocked := by simp [ZoneRec.step, hheated, hpermit]

theorem ZoneRec.step_controlled {air : Int} (hheated : i.dryer.heated = true) (hpermit : i.permit = true)
    (hair : i.air = .valid air) : r.step i = r.controlled i air := by simp [ZoneRec.step, hheated, hpermit, hair]

theorem ZoneRec.step_silent (hheated : i.dryer.heated = true) (hpermit : i.permit = true)
    (hair : i.air.isValid = false) :
    r.step i = if r.state.controlling = true ∧ r.holdOut i = false then r.heldOver i else r.failed i := by
  cases hx : i.air with
  | valid air => simp [hx, Sample.isValid] at hair
  | invalid | absent => simp [ZoneRec.step, hheated, hpermit, hx]

/-- Every row of Table 5.2 takes the over-temperature finding of R83. -/
theorem ZoneRec.step_overTemp (i : ZoneInputs) : (r.step i).overTemp = r.overTempFound i := by
  cases hheated : i.dryer.heated with
  | false => rw [r.step_unheated hheated]; rfl
  | true =>
    cases hpermit : i.permit with
    | false => rw [r.step_unpermitted hheated hpermit]; rfl
    | true =>
      cases hair : i.air.isValid with
      | false =>
        rw [r.step_silent hheated hpermit hair]
        split_ifs <;> rfl
      | true =>
        obtain ⟨air, hvalid⟩ := (Sample.isValid_iff _).1 hair
        rw [r.step_controlled hheated hpermit hvalid]
        rfl

theorem ZoneRec.overTempFound_valid {air : Int} (hair : i.air = .valid air) :
    r.overTempFound i = decide ((i.tables.comm.maxAir i.zone : Int) < air) := by simp [ZoneRec.overTempFound, hair]

theorem ZoneRec.sensed_valid {air : Int} (hair : i.air = .valid air) :
    r.sensed i =
      { r with
        hold := 0
        lastAir := air
        overTemp := decide ((i.tables.comm.maxAir i.zone : Int) < air)
        inBand := false
        faulted := false } := by
  simp [ZoneRec.sensed, ZoneRec.heldFor, holdStep, ZoneRec.overTempFound, hair, Sample.isValid]

theorem ZoneRec.sensed_silent (hair : i.air.isValid = false) :
    r.sensed i =
      { r with hold := min (r.hold + i.tables.comm.period) 8589934591, inBand := false, faulted := false } := by
  have hheld : r.heldFor i = min (r.hold + i.tables.comm.period) 8589934591 := holdStep_silent _ _ hair
  cases hx : i.air with
  | valid air => simp [hx, Sample.isValid] at hair
  | invalid | absent => simp [ZoneRec.sensed, hheld, ZoneRec.overTempFound, hx]

/-- A controlled zone has no fault finding, its hold timer at 0 and its air taken (R69, R76). -/
theorem ZoneRec.controlled_sensed {air : Int} (hair : i.air = .valid air) :
    (r.controlled i air).hold = 0 ∧ (r.controlled i air).lastAir = air ∧ (r.controlled i air).faulted = false := by
  rw [ZoneRec.controlled, r.sensed_valid hair]
  exact ⟨rfl, rfl, rfl⟩

/-- The record of an OFF or BLOCKED zone (R71, R72). -/
theorem ZoneRec.atRest_spec (i : ZoneInputs) (state : ZoneState) :
    (∀ air, i.air = .valid air →
        r.atRest i state =
          { state := state, setpoint := max 0 (air * 100), integ := 0, lastFire := 0, lastAir := air, hold := 0
            inBand := false, overTemp := decide ((i.tables.comm.maxAir i.zone : Int) < air), faulted := false })
      ∧ ((∀ air, i.air ≠ .valid air) →
        r.atRest i state =
          { state := state, setpoint := r.setpoint, integ := 0, lastFire := 0, lastAir := r.lastAir
            hold := min (r.hold + i.tables.comm.period) 8589934591
            inBand := false, overTemp := r.overTemp, faulted := false })
      ∧ (r.atRest i state).lastFire = 0 := by
  refine ⟨fun air hair => ?_, fun hsilent => ?_, rfl⟩
  · rw [ZoneRec.atRest, r.sensed_valid hair, hair, followAir]
  · have hstands : followAir r.setpoint i.air = r.setpoint := by
      cases hx : i.air with
      | valid air => exact absurd hx (hsilent air)
      | invalid | absent => rfl
    rw [ZoneRec.atRest, r.sensed_silent ((Sample.isValid_eq_false_iff _).2 hsilent), hstands]

/-- The sensor hold of a silent zone runs out where its time, this period counted, is above the setting (R69). -/
theorem ZoneRec.holdOut_silent (hair : i.air.isValid = false) :
    r.holdOut i = true ↔ i.tables.comm.sensorHold < min (r.hold + i.tables.comm.period) 8589934591 := by
  simp [ZoneRec.holdOut, ZoneRec.heldFor, hair, holdStep_silent]

end

/-! #### The loop of a controlled zone (R79 to R82) -/

section
variable (r : ZoneRec) {i : ZoneInputs} {air : Int}

theorem ZoneRec.startSetpoint_eq (i : ZoneInputs) (air : Int) :
    r.startSetpoint i air =
      if r.state = .firing ∨ r.state = .limited ∨ r.state = .holding then r.setpoint
      else max 0 (min (air * 100) ((i.tables.comm.maxAir i.zone : Int) * 100)) := by
  rw [ZoneRec.startSetpoint, clamp_eq _ (by omega)]
  simp only [ZoneState.controlling_iff]

theorem ZoneRec.error_eq (i : ZoneInputs) (air : Int) :
    r.error i air = max (-100000) (min (r.slewed i air - air * 100) 100000) := clamp_eq _ (by decide)

theorem ZoneRec.fire_overTemp (h : r.overTempFound i = true) : r.fire i air = 0 := if_pos h

theorem ZoneRec.fire_bounded (h : r.overTempFound i = false) :
    r.fire i air = max 0 (min (r.output i air) (i.tables.comm.maxFire i.zone)) := by
  rw [ZoneRec.fire, if_neg (by simp [h]), clamp_zero]

theorem ZoneRec.guarded_iff (i : ZoneInputs) (air : Int) :
    r.guarded i air = true ↔
      (((i.tables.comm.maxFire i.zone : Int) < r.output i air ∨ r.overTempFound i = true) ∧ 0 < r.integStep i air)
        ∨ (r.output i air < 0 ∧ r.integStep i air < 0) := by
  simp only [ZoneRec.guarded, Bool.or_eq_true, Bool.and_eq_true, decide_eq_true_eq]
  tauto

theorem ZoneRec.integrated_guarded (h : r.guarded i air = true) : r.integrated i air = r.integ := if_pos h

theorem ZoneRec.integrated_applied (h : ¬ r.guarded i air = true) :
    r.integrated i air = max (-100000000) (min (r.integ + r.integStep i air) 100000000) :=
  (if_neg h).trans (clamp_eq _ (by decide))

theorem ZoneRec.controlledState_limited (i : ZoneInputs) (air : Int) :
    r.controlledState i air = .limited ↔
      r.output i air < 0 ∨ (i.tables.comm.maxFire i.zone : Int) < r.output i air ∨ r.overTempFound i = true := by
  unfold ZoneRec.controlledState
  split_ifs with h <;> simp [h]

theorem ZoneRec.controlledState_cases (i : ZoneInputs) (air : Int) :
    r.controlledState i air = .limited ∨ r.controlledState i air = .firing := by
  unfold ZoneRec.controlledState
  split_ifs <;> simp

end

/-! ### What latching and a trip leave of the rest (R147, R148, R174) -/

theorem latchIf_heatRequest (b : Bool) (f : Flag) (s : State) :
    (s.latchIf b f).pins.heatRequest = s.pins.heatRequest := by cases b <;> simp [State.latchIf]

theorem tripIf_svc (b : Bool) (c : Cause) (s : State) :
    (s.tripIf b c).svc = { s.svc with latched := (s.tripIf b c).svc.latched } := by
  cases b <;> simp [State.tripIf]

theorem tripIf_hasFlag (b : Bool) (c : Cause) (s : State) (fl : Flag) :
    hasFlag (s.tripIf b c).svc.latched fl = true ↔ hasFlag s.svc.latched fl = true ∨ (fl = .trip ∧ b = true) := by
  cases b <;> simp [State.tripIf, hasFlag_or_mask]

theorem tripIf_changesOnly (b : Bool) (c : Cause) (s : State) : ChangesOnly s (s.tripIf b c) [.trip, .svc, .pins] := by
  intro b hb; cases b <;> simp [Block.Same] at hb ⊢

/-- HEAT_REQUEST falls at a clear latch, and stands at a set one (R63, R147, R148). -/
theorem tripArrives_heatRequest (c : Cause) (s : State) :
    (s.tripArrives c).pins.heatRequest = (s.trip.latch && s.pins.heatRequest) := by
  cases h : s.trip.latch
  · rw [State.tripArrives_clear c s h]; rfl
  · rw [State.tripArrives_set c s h]; rfl

theorem tripArrives_overtemp_cause (s : State) : (s.tripArrives .overtemp).trip.causes.getLsbD 6 = true := by
  have hmask : Cause.overtemp.mask.getLsbD 6 = true := by decide
  rw [tripArrives_causes]
  split <;> simp [hmask]

/-! ### The state after stage 3 -/

theorem exec_zoneStage {s : State} {c : Computation} (time : Nat) (hflight : s.engine.flight = some c)
    (hstage : c.stage = .zones) : exec (.zoneStage time) s = .next (takeZoneStage c (s.advanceTo time)) :=
  congrArg Host.Outcome.next (s.atStage_of c .zones _ hflight hstage)

theorem exec_zoneSensorHoldRunOut (z : Fin 6) (time : Nat) (s : State) :
    exec (.zoneSensorHoldRunOut z time) s = .next (s.atStage .zones fun c =>
      if s.zoneRunsOut c z then takeZoneStage c (s.advanceTo time) else s) := rfl

/-- Where some active zone's valid air is at its trip level (R84). -/
theorem zoneTrips_iff (s : State) :
    s.zoneTrips = true ↔
      ∃ z < 6, s.svc.active.comm.zoneActive z = true ∧ ∃ air, s.engine.samples.air z = .valid air
        ∧ (s.svc.active.comm.maxAir z : Int) + s.svc.active.comm.tripMargin z < air := by
  have hlevel (z : Nat) : overTempTrips s.svc.active.comm z (s.engine.samples.air z) = true ↔
      ∃ air, s.engine.samples.air z = .valid air
        ∧ (s.svc.active.comm.maxAir z : Int) + s.svc.active.comm.tripMargin z < air := by
    cases s.engine.samples.air z <;> simp [overTempTrips]
  simp only [State.zoneTrips, Commissioning.activeZones, List.any_eq_true, List.mem_filter, List.mem_range, hlevel,
    and_assoc]

theorem zoneTrips_advanceTo (s : State) (time : Nat) : (s.advanceTo time).zoneTrips = s.zoneTrips := by
  simp [State.zoneTrips]

/-- Stage 3 but for the trip: the new records and outputs, and the flags of the findings. -/
def State.zonesFound (s : State) (c : Computation) : State :=
  ({ s with engine := s.zoneEngine c }.latchIf ((s.zonesNext c).any (·.overTemp)) .overtemp).latchIf
    ((s.zonesNext c).any (·.faulted)) .zoneFault

theorem takeZoneStage_eq (c : Computation) (s : State) :
    takeZoneStage c s = (s.zonesFound c).tripIf s.zoneTrips .overtemp := rfl

theorem zonesFound_changesOnly (s : State) (c : Computation) :
    ChangesOnly s (s.zonesFound c) [.engine, .svc, .pins] := by
  intro b hb; cases b <;> simp [Block.Same, State.zonesFound] at hb ⊢

theorem zonesFound_trip (s : State) (c : Computation) : (s.zonesFound c).trip = s.trip := by simp [State.zonesFound]

theorem zonesFound_heatRequest (s : State) (c : Computation) :
    (s.zonesFound c).pins.heatRequest = s.pins.heatRequest := by
  rw [State.zonesFound, latchIf_heatRequest, latchIf_heatRequest]

section
variable (s : State) (c : Computation) (time : Nat)

theorem zoneEngine_advanceTo : (s.advanceTo time).zoneEngine c = s.zoneEngine c := by
  simp [State.zoneEngine, State.zonesNext, State.zoneFires, State.zoneFans, State.zoneInputs]

theorem zoneStaged_engine : (takeZoneStage c (s.advanceTo time)).engine = s.zoneEngine c := by
  simp [takeZoneStage_eq, State.zonesFound, zoneEngine_advanceTo]

/-- At a trip level stage 3 ends with one trip's arrival (assumption 32), and below it with none. -/
theorem zoneStaged_trips (h : s.zoneTrips = true) :
    takeZoneStage c (s.advanceTo time) = ((s.advanceTo time).zonesFound c).tripArrives .overtemp := by
  rw [takeZoneStage_eq, zoneTrips_advanceTo, h]
  rfl

theorem zoneStaged_quiet (h : s.zoneTrips = false) :
    takeZoneStage c (s.advanceTo time) = (s.advanceTo time).zonesFound c := by
  rw [takeZoneStage_eq, zoneTrips_advanceTo, h]
  rfl

theorem zoneStaged_svc :
    (takeZoneStage c (s.advanceTo time)).svc =
      { s.svc with latched := (takeZoneStage c (s.advanceTo time)).svc.latched } := by
  rw [takeZoneStage_eq, tripIf_svc, State.zonesFound, latchIf_svc, latchIf_svc, State.advanceTo_svc]

theorem zoneStaged_changesOnly :
    ChangesOnly (s.advanceTo time) (takeZoneStage c (s.advanceTo time)) [.engine, .svc, .trip, .pins] := by
  rw [takeZoneStage_eq]
  exact ((zonesFound_changesOnly _ c).mono (by simp)).trans ((tripIf_changesOnly _ _ _).mono (by simp))

section
variable {z : Nat} (hz : z < 6)
include hz

theorem zoneStaged_zone :
    (takeZoneStage c (s.advanceTo time)).engine.zone z =
      if s.svc.active.comm.zoneActive z then (s.engine.zone z).step (s.zoneInputs c z) else .reset := by
  rw [zoneStaged_engine]
  exact tabulate_getD _ _ hz

theorem zoneStaged_fire :
    (takeZoneStage c (s.advanceTo time)).engine.working.fire.getD z 0 =
      if s.svc.active.comm.zoneActive z then ((s.engine.zone z).step (s.zoneInputs c z)).lastFire
      else s.engine.working.fire.getD z 0 := by
  rw [zoneStaged_engine]
  exact tabulate_getD _ _ hz

theorem zoneStaged_fan :
    (takeZoneStage c (s.advanceTo time)).engine.working.fan.getD z 0 =
      if s.svc.active.comm.zoneActive z then (s.zoneInputs c z).fan else s.engine.working.fan.getD z 0 := by
  rw [zoneStaged_engine]
  exact tabulate_getD _ _ hz

end

/-- Some zone's record holds a finding. -/
theorem zonesNext_any (p : ZoneRec → Bool) :
    (s.zonesNext c).any p = true ↔ ∃ z < 6, p ((takeZoneStage c (s.advanceTo time)).engine.zone z) = true := by
  simp only [State.zonesNext, tabulate, List.any_map, List.any_eq_true, List.mem_range, Function.comp_apply]
  refine exists_congr fun z => and_congr_right fun hz => ?_
  rw [zoneStaged_zone s c time hz]

/-- The flags latched by stage 3: those of the two findings, and the trip's. -/
theorem zoneStaged_hasFlag (fl : Flag) :
    hasFlag (takeZoneStage c (s.advanceTo time)).svc.latched fl = true ↔
      hasFlag s.svc.latched fl = true
        ∨ (fl = .overtemp ∧ ∃ z < 6, ((takeZoneStage c (s.advanceTo time)).engine.zone z).overTemp = true)
        ∨ (fl = .zoneFault ∧ ∃ z < 6, ((takeZoneStage c (s.advanceTo time)).engine.zone z).faulted = true)
        ∨ (fl = .trip ∧ s.zoneTrips = true) := by
  have hzones : (s.advanceTo time).zonesNext c = s.zonesNext c := congrArg Engine.zones (zoneEngine_advanceTo s c time)
  rw [← zonesNext_any s c time (·.overTemp), ← zonesNext_any s c time (·.faulted), takeZoneStage_eq, tripIf_hasFlag,
    State.zonesFound, latchIf_hasFlag, latchIf_hasFlag, hzones, zoneTrips_advanceTo, State.advanceTo_svc, or_assoc,
    or_assoc]

end

/-! ### The obligations of stage 3 -/

/-- Settles O25: a zone at rest takes `atRest`, and every active zone the fan of its dryer state. -/
theorem zonesAtRestHaveNoFire : Obligations.ZonesAtRestHaveNoFire := by
  intro s c time hflight hstage
  refine ⟨_, exec_zoneStage time hflight hstage, ?_, zoneStaged_svc s c time, zoneStaged_changesOnly s c time,
    fun z hz => ?_⟩
  · rw [zoneStaged_engine]
    rfl
  · rw [zoneStaged_zone s c time hz, zoneStaged_fire s c time hz, zoneStaged_fan s c time hz]
    refine ⟨fun hinactive => by simp [hinactive], fun hactive => ?_⟩
    rw [if_pos hactive, if_pos hactive, if_pos hactive]
    refine ⟨fun hunheated => ?_, fun hheated hpermit => ?_, (s.zoneInputs c z).fan_cold,
      (s.zoneInputs c z).fan_purge, (s.zoneInputs c z).fan_cooldown,
      fun hmin => ⟨(s.zoneInputs c z).fan_standby hmin, (s.zoneInputs c z).fan_run hmin⟩⟩
    · rw [ZoneRec.step_unheated (i := s.zoneInputs c z) _ hunheated]
      exact ZoneRec.atRest_spec _ (s.zoneInputs c z) .off
    · rw [ZoneRec.step_unpermitted (i := s.zoneInputs c z) _ hheated hpermit]
      exact ZoneRec.atRest_spec _ (s.zoneInputs c z) .blocked

/-- Settles O26: the step is `controlled`, whose parts are those of R79 to R85. -/
theorem zoneLoopFormsItsFire : Obligations.ZoneLoopFormsItsFire := by
  intro s c time z air hflight hstage hz hactive hheated hpermit hair
  refine ⟨_, exec_zoneStage time hflight hstage, ?_⟩
  have hstep := (s.engine.zone z).step_controlled (i := s.zoneInputs c z) hheated hpermit hair
  rw [zoneStaged_zone s c time hz, zoneStaged_fire s c time hz, if_pos hactive, if_pos hactive, hstep]
  intro m r r' goal base s0 up down e u di
  have hgoal : (s.zoneInputs c z).targetAir = goal := ZoneInputs.targetAir_heated hheated
  have hbase : (s.zoneInputs c z).baseFire = base := ZoneInputs.baseFire_eq _
  have hstart : r.startSetpoint (s.zoneInputs c z) air = s0 := r.startSetpoint_eq _ _
  have hsetpoint : r'.setpoint = slew s0 (goal * 100) up down := by
    rw [← hstart, ← hgoal]
    rfl
  have herror : r.error (s.zoneInputs c z) air = e := r.error_eq _ _
  have houtput : r.output (s.zoneInputs c z) air = u := by
    rw [ZoneRec.output, hbase, herror]
    rfl
  have hdelta : r.integStep (s.zoneInputs c z) air = di := by
    rw [ZoneRec.integStep, herror]
    rfl
  have hlimited := r.controlledState_limited (s.zoneInputs c z) air
  have hguard := r.guarded_iff (s.zoneInputs c z) air
  have happlied := r.integrated_applied (i := s.zoneInputs c z) (air := air)
  have hfire := r.fire_bounded (i := s.zoneInputs c z) (air := air)
  have hband := (s.zoneInputs c z).withinBand_iff air
  have hovertemp : r'.overTemp = decide ((m.maxAir z : Int) < air) := r.overTempFound_valid hair
  rw [houtput] at hlimited hguard hfire
  rw [hdelta] at hguard happlied
  rw [hgoal] at hband
  obtain ⟨hhold, hlast, hfaulted⟩ := r.controlled_sensed (i := s.zoneInputs c z) hair
  exact ⟨fun h => hsetpoint.trans (slew_rising _ _ h), fun h => hsetpoint.trans (slew_falling _ _ h),
    fun h => hsetpoint.trans (slew_reached _ _ h), by rw [hovertemp, decide_eq_true_eq], r.fire_overTemp, hfire,
    hlimited, r.controlledState_cases _ _, fun h => r.integrated_guarded (hguard.2 h),
    fun h => happlied (hguard.not.2 h), hband, hhold, hlast, hfaulted, rfl⟩

/-- Settles O27: within the hold the step is `heldOver`, past it or without prior control `failed`. -/
theorem zoneWithoutASensor : Obligations.ZoneWithoutASensor := by
  intro s c time z hflight hstage hactive hheated hpermit hsilent
  refine ⟨_, exec_zoneStage time hflight hstage, ?_⟩
  have hair : (s.zoneInputs c z).air.isValid = false := (Sample.isValid_eq_false_iff _).2 hsilent
  have hstep := (s.engine.zone z).step_silent (i := s.zoneInputs c z) hheated hpermit hair
  have hsensed := (s.engine.zone z).sensed_silent hair
  have hout := (s.engine.zone z).holdOut_silent hair
  have hzone := zoneStaged_zone s c time z.isLt
  rw [if_pos hactive, hstep] at hzone
  rw [zoneStaged_fire s c time z.isLt, if_pos hactive, hstep, hzone]
  intro r r' held controlling
  refine ⟨fun hcontrolling hholds => ?_, fun hfails => ?_, rfl, fun hrunOut => ?_⟩
  · have hholding : r' = r.heldOver (s.zoneInputs c z) :=
      if_pos ⟨(ZoneState.controlling_iff _).2 hcontrolling, by simpa using hout.not.2 (not_lt.2 hholds)⟩
    rw [hholding, ZoneRec.heldOver, hsensed]
    rfl
  · have hfault : r' = r.failed (s.zoneInputs c z) := if_neg <| by
      rw [ZoneState.controlling_iff, Bool.eq_false_iff, Ne, hout]
      rintro ⟨hcontrolling, hholds⟩
      exact hfails.elim (· hcontrolling) hholds
    refine ⟨?_, (zoneStaged_hasFlag s c time _).2 (.inr (.inr (.inl ⟨rfl, z, z.isLt, ?_⟩)))⟩
    · rw [hfault, ZoneRec.failed, hsensed, clamp_eq _ (by omega)]
      rfl
    · rw [hzone]
      exact congrArg ZoneRec.faulted hfault
  · have hrunsOut : s.zoneRunsOut c z = true := by
      have hfault := hout.2 hrunOut
      rw [State.zoneRunsOut, hactive, hfault, hstep, hfault, if_neg (by simp)]
      rfl
    rw [exec_zoneSensorHoldRunOut, s.atStage_of c .zones _ hflight hstage, if_pos hrunsOut]

/-- Settles O28: the finding is formed in every row of Table 5.2, and the trip at its level alone. -/
theorem overtempIsFoundAndTrips : Obligations.OvertempIsFoundAndTrips := by
  refine ⟨fun s c time z air hflight hstage hz hactive hair habove => ⟨_, exec_zoneStage time hflight hstage, ?_⟩,
    fun s c time hflight hstage => ⟨_, exec_zoneStage time hflight hstage, ?_⟩⟩
  · have hfound : ((takeZoneStage c (s.advanceTo time)).engine.zone z).overTemp = true := by
      rw [zoneStaged_zone s c time hz, if_pos hactive, ZoneRec.step_overTemp,
        ZoneRec.overTempFound_valid (i := s.zoneInputs c z) _ hair]
      exact decide_eq_true habove
    refine ⟨hfound, (zoneStaged_hasFlag s c time _).2 (.inr (.inl ⟨rfl, z, hz, hfound⟩)), fun hmargin => ?_⟩
    have htrips := zoneStaged_trips s c time ((zoneTrips_iff s).2 ⟨z, hz, hactive, air, hair, hmargin⟩)
    have hpins : ((s.advanceTo time).zonesFound c).pins.heatRequest = s.pins.heatRequest := by
      simp [zonesFound_heatRequest]
    rw [htrips, tripArrives_heatRequest, hpins, tripArrives_firstCause, zonesFound_trip, State.advanceTo_latch,
      State.advanceTo_firstCause]
    exact ⟨State.tripArrives_latch _ _, tripArrives_overtemp_cause _,
      (State.tripArrives_purgeTimer _ _).trans (by simp [State.zonesFound]), State.tripArrives_purgeDone _ _, rfl, rfl⟩
  · rw [← zoneTrips_iff]
    refine ⟨fun hbelow => ?_, zoneStaged_hasFlag s c time⟩
    rw [zoneStaged_quiet s c time (by simpa using hbelow), zonesFound_trip]

end Sys2Proof.Machine
end

section
/-!
SUPPORT. Proofs about the checks of the recipe tables: the first failure in a list of checks, list by list, and the
checks of each table as its rows.
-/
namespace Sys2Proof.Machine

/-! ### The first failure of a list of checks (R181) -/

theorem firstSome_cons {α : Type} (x : Option α) (rest : List (Option α)) :
    firstSome (x :: rest) = x.or (firstSome rest) := by cases x <;> rfl

theorem firstFailure_nil : firstFailure [] none := ⟨by simp, nofun⟩

/-- One check is a list of one row. -/
theorem firstFailure_check {ok : Bool} {f : Failure} {holds : Prop} {code : Nat} {index : Option Nat}
    (hok : ok = true ↔ holds) (hcode : f.code = code) (hindex : ∀ i, index = some i → f.index = BitVec.ofNat 32 i) :
    firstFailure [(holds, code, index)] (check ok f) := by
  rcases check_spec ok f with ⟨hpass, heq⟩ | ⟨hfail, heq⟩ <;> rw [heq]
  · exact ⟨by simpa using hok.1 hpass, nofun⟩
  · have hnot : ¬ holds := hok.not.1 (by simp [hfail])
    refine ⟨by simpa using hnot, ?_⟩
    rintro _ ⟨⟩
    exact ⟨[], _, [], rfl, nofun, hnot, hcode, hindex⟩

/-- The failure of a check whose chapter gives an entry index. -/
theorem Check.failed_index (c : Check) (t : TableId) {i j : Nat} (h : some i = some j) :
    (c.failed t i).index = BitVec.ofNat 32 j := by
  rw [Check.failed, Option.some.inj h]

theorem firstFailure_failed {ok : Bool} {holds : Prop} {c : Check} {t : TableId} {code i : Nat}
    (hok : ok = true ↔ holds) (hcode : c.code t = code) :
    firstFailure [(holds, code, some i)] (check ok (c.failed t i)) :=
  firstFailure_check hok hcode fun _ => c.failed_index t

/-- Two lists of checks report the first list's failure, and the second's only where the first passes. -/
theorem firstFailure_append {rows rows' : List CheckRow} {x y : Option Failure} (h : firstFailure rows x)
    (h' : firstFailure rows' y) : firstFailure (rows ++ rows') (x.or y) := by
  obtain ⟨hpass, hfail⟩ := h
  obtain ⟨hpass', hfail'⟩ := h'
  refine ⟨by simp only [Option.or_eq_none_iff, hpass, hpass', List.forall_mem_append], fun f hf => ?_⟩
  rcases Option.or_eq_some_iff.1 hf with hx | ⟨hx, hy⟩
  · obtain ⟨before, row, after, rfl, hbefore, hrow⟩ := hfail f hx
    exact ⟨before, row, after ++ rows', by simp, hbefore, hrow⟩
  · obtain ⟨before, row, after, rfl, hbefore, hrow⟩ := hfail' f hy
    exact ⟨rows ++ before, row, after, by simp, List.forall_mem_append.2 ⟨hpass.1 hx, hbefore⟩, hrow⟩

theorem firstFailure_cons {rows rows' : List CheckRow} {x : Option Failure} {rest : List (Option Failure)}
    (h : firstFailure rows x) (h' : firstFailure rows' (firstSome rest)) :
    firstFailure (rows ++ rows') (firstSome (x :: rest)) := by
  rw [firstSome_cons]
  exact firstFailure_append h h'

/-- The last list of checks. -/
theorem firstFailure_last {rows : List CheckRow} {x : Option Failure} (h : firstFailure rows x) :
    firstFailure rows (firstSome [x]) := by
  cases x <;> exact h

theorem firstFailure_flatMap {α : Type} {rows : α → List CheckRow} {checks : α → Option Failure} {l : List α}
    (h : ∀ a ∈ l, firstFailure (rows a) (checks a)) : firstFailure (l.flatMap rows) (firstSome (l.map checks)) := by
  induction l with
  | nil => exact firstFailure_nil
  | cons a l ih =>
    rw [List.flatMap_cons, List.map_cons]
    exact firstFailure_cons (h a (.head _)) (ih fun b hb => h b (.tail _ hb))

theorem firstFailure_map {α : Type} {row : α → CheckRow} {checks : α → Option Failure} {l : List α}
    (h : ∀ a ∈ l, firstFailure [row a] (checks a)) : firstFailure (l.map row) (firstSome (l.map checks)) := by
  rw [List.map_eq_flatMap]
  exact firstFailure_flatMap h

/-- The checks of a table's zones or classes, part by part (R89, R139). -/
theorem firstFailure_partChecks {n : Nat} {ranges relations : Nat → List CheckRow}
    {rangesOf relationsOf : Nat → Option Failure} (hranges : ∀ k, firstFailure (ranges k) (rangesOf k))
    (hrelations : ∀ k, firstFailure (relations k) (relationsOf k)) :
    firstFailure (partRows n ranges relations) (partChecks n rangesOf relationsOf) :=
  firstFailure_flatMap fun k _ => firstFailure_cons (hranges k) (firstFailure_last (hrelations k))

theorem itemIn_iff (ws : List Word) (i : Nat) (range : Nat × Nat) :
    itemIn ws i range = true ↔ range.1 ≤ item ws i ∧ item ws i ≤ range.2 := by simp [itemIn, within]

/-- The range checks of the words `part` that stand in a table from `start` on. -/
theorem firstFailure_checkRanges {ws part : List Word} {start code : Nat} {index : Nat → Option Nat}
    {ranges : List (Nat × Nat)} {failure : Nat → Failure} (hpart : ∀ i, item part i = item ws (start + i))
    (hcode : ∀ i, (failure i).code = code)
    (hindex : ∀ i j, index i = some j → (failure i).index = BitVec.ofNat 32 j) :
    firstFailure (rangeRows ws start code index ranges) (checkRanges part ranges failure) :=
  firstFailure_map fun p _ => firstFailure_check (by rw [itemIn_iff, hpart]) (hcode _) (hindex _)

theorem item_drop (ws : List Word) (n i : Nat) : item (ws.drop n) i = item ws (n + i) := by
  simp [item, List.getD_eq_getElem?_getD]

/-! ### Curves (R34, R89, R97, R134) -/

/-- Each speed of a curve is below the next one, which stands at `next`. -/
theorem ascending_iff {ws : List Word} {n : Nat} {place next : Nat → Nat} (hnext : ∀ i, place (i + 1) = next i) :
    ascending ws n place = true ↔ ∀ i, i + 1 < n → item ws (place i) < item ws (next i) := by
  simp only [ascending, List.all_eq_true, List.mem_range, decide_eq_true_eq, Nat.lt_sub_iff_add_lt, hnext]

theorem pointsIn_iff (ws : List Word) (n : Nat) (place : Nat → Nat) (ranges : List (Nat × Nat)) :
    pointsIn ws n place ranges = true ↔ ∀ i < n, ∀ p ∈ ranges.zipIdx, itemIn ws (place i + p.2) p.1 = true := by
  simp only [pointsIn, List.all_eq_true, List.mem_range]

/-- The two fields of each breakpoint of a curve with one output, the second of them at `second`. -/
theorem pointsIn_pair {ws : List Word} {n x y : Nat} {place second : Nat → Nat}
    (hsecond : ∀ i, place i + 1 = second i) :
    pointsIn ws n place [(0, x), (0, y)] = true ↔ ∀ i < n, item ws (place i) ≤ x ∧ item ws (second i) ≤ y := by
  simp [pointsIn_iff, itemIn_iff, hsecond]

/-! ### The checks of each table -/

theorem firstFailure_zoneCurves (r : Recipe) : firstFailure (zoneCurveRows r) (r.validate .zoneCurves) := by
  refine firstFailure_cons (firstFailure_failed (by simp [itemIn_iff, Recipe.zoneTag]) rfl)
    (firstFailure_last (firstFailure_partChecks (fun z => ?_) fun z => ?_))
  · refine firstFailure_cons (firstFailure_failed (by simp [itemIn_iff, Recipe.zonePoints]) rfl)
      (firstFailure_last (firstFailure_failed ?_ rfl))
    simp [pointsIn_iff, itemIn_iff, zonePointRanges, Recipe.zonePoints, Recipe.zoneField, zonePlace]
  · exact firstFailure_failed (ascending_iff fun _ => rfl) rfl

theorem firstFailure_exhaustCurve (r : Recipe) : firstFailure (exhaustCurveRows r) (r.validate .exhaustCurve) := by
  refine firstFailure_cons (firstFailure_failed ?_ rfl) <|
    firstFailure_cons (firstFailure_failed ?_ rfl) <|
    firstFailure_cons (firstFailure_failed ?_ rfl) <|
    firstFailure_last (firstFailure_failed ?_ rfl)
  · simp [itemIn_iff, Recipe.exhaustTag]
  · simp [itemIn_iff, Recipe.exhaustPoints]
  · exact pointsIn_pair fun i => by omega
  · exact ascending_iff fun i => by omega

theorem firstFailure_chillCurves (r : Recipe) : firstFailure (chillCurveRows r) (r.validate .chillCurves) := by
  rw [chillCurveRows, List.append_assoc, List.append_assoc]
  refine firstFailure_cons (firstFailure_checkRanges ?_ (fun _ => rfl) fun _ _ => Check.failed_index _ _) <|
    firstFailure_cons (firstFailure_map fun k _ => firstFailure_failed ?_ rfl) <|
    firstFailure_cons (firstFailure_map fun k _ => firstFailure_failed ?_ rfl) <|
    firstFailure_last (firstFailure_map fun k _ => firstFailure_failed ?_ rfl)
  · simp
  · simp [itemIn_iff, Recipe.rollPoints]
  · exact pointsIn_pair fun i => by unfold rollPlace; omega
  · exact ascending_iff fun i => by unfold rollPlace; omega

theorem firstFailure_doseWindows (r : Recipe) : firstFailure (doseWindowRows r) (r.validate .doseWindows) := by
  refine firstFailure_cons (firstFailure_checkRanges (by simp) (fun _ => rfl) nofun)
    (firstFailure_last (firstFailure_partChecks (fun k => ?_) fun k => ?_))
  · exact firstFailure_checkRanges (item_drop _ _) (fun _ => rfl) fun _ _ => Check.failed_index _ _
  · exact firstFailure_cons (firstFailure_failed decide_eq_true_iff rfl)
      (firstFailure_last (firstFailure_failed decide_eq_true_iff rfl))

/-! ### What the rows of each table say together -/

theorem forall_mem_partRows {n : Nat} {ranges relations : Nat → List CheckRow} :
    (∀ row ∈ partRows n ranges relations, row.1) ↔
      ∀ k < n, (∀ row ∈ ranges k, row.1) ∧ ∀ row ∈ relations k, row.1 := by
  simp only [partRows, List.forall_mem_flatMap, List.mem_range, List.forall_mem_append]

/-- Five range checks, as entry 0 and each class of DOSE_WINDOWS and the items of CHILL_CURVES have them. -/
theorem forall_mem_rangeRows_five {ws : List Word} {start code : Nat} {index : Nat → Option Nat}
    {a b c d e : Nat × Nat} :
    (∀ row ∈ rangeRows ws start code index [a, b, c, d, e], row.1) ↔
      (a.1 ≤ item ws start ∧ item ws start ≤ a.2) ∧ (b.1 ≤ item ws (start + 1) ∧ item ws (start + 1) ≤ b.2)
        ∧ (c.1 ≤ item ws (start + 2) ∧ item ws (start + 2) ≤ c.2)
        ∧ (d.1 ≤ item ws (start + 3) ∧ item ws (start + 3) ≤ d.2)
        ∧ e.1 ≤ item ws (start + 4) ∧ item ws (start + 4) ≤ e.2 := by
  rw [rangeRows, List.forall_mem_map]
  simp only [List.zipIdx_cons, List.zipIdx_nil, List.forall_mem_cons, List.not_mem_nil, IsEmpty.forall_iff,
    implies_true, and_true]
  rfl

/-- The words of entry 0 of DOSE_WINDOWS that are given as 0 (Table 12.5). -/
theorem zeroWords_iff (ws : List Word) :
    (∀ i, 1 ≤ i → i ≤ 4 → item ws i = 0) ↔ item ws 1 = 0 ∧ item ws 2 = 0 ∧ item ws 3 = 0 ∧ item ws 4 = 0 := by
  constructor
  · intro h
    exact ⟨h 1 (by decide) (by decide), h 2 (by decide) (by decide), h 3 (by decide) (by decide),
      h 4 (by decide) (by decide)⟩
  · rintro ⟨h1, h2, h3, h4⟩ i low high
    interval_cases i <;> assumption

/-- Settles O46: each table's checks are its rows, and it is accepted where every row holds. -/
theorem doseWindowChecks : Obligations.DoseWindowChecks := by
  refine ⟨fun r => (firstFailure_zoneCurves r).1.trans ?_, fun r => (firstFailure_exhaustCurve r).1.trans ?_,
    fun r => (firstFailure_chillCurves r).1.trans ?_, fun r => (firstFailure_doseWindows r).1.trans ?_,
    firstFailure_zoneCurves, firstFailure_exhaustCurve, firstFailure_chillCurves, firstFailure_doseWindows⟩
  · simp only [zoneCurveRows, List.forall_mem_cons, forall_mem_partRows, List.not_mem_nil, IsEmpty.forall_iff,
      implies_true, and_true, and_assoc]
  · simp only [exhaustCurveRows, List.forall_mem_cons, List.not_mem_nil, IsEmpty.forall_iff, implies_true, and_true]
  · simp only [chillCurveRows, List.forall_mem_append, List.forall_mem_map, List.mem_range, forall_mem_rangeRows_five,
      Nat.zero_le, true_and, Nat.zero_add, and_assoc, ← forall_and]
    rfl
  · simp only [doseWindowRows, List.forall_mem_append, forall_mem_partRows, forall_mem_rangeRows_five,
      List.forall_mem_cons, List.not_mem_nil, IsEmpty.forall_iff, implies_true, and_true, Nat.zero_le, true_and,
      Nat.zero_add, Nat.le_zero_eq, zeroWords_iff, Nat.add_right_comm 5 (5 * _), and_assoc]
    rfl

end Sys2Proof.Machine
end

section
/-!
SUPPORT. Proofs about stage 4: the exhaust record and the damper of Table 6.2, what the stage leaves of the rest, and
the LEL trips.
-/
namespace Sys2Proof.Machine

/-! ### The exhaust record (R91, R95, R96) -/

section
variable (r : ExhaustRec) {i : ExhaustInputs} {x : Int}

theorem ExhaustRec.level'_valid (hlel : i.lel = .valid x) : r.level' i = x := by rw [ExhaustRec.level', hlel]

theorem ExhaustRec.level'_silent (hlel : i.lel.isValid = false) : r.level' i = r.lastLel := by
  cases hx : i.lel with
  | valid x => simp [hx, Sample.isValid] at hlel
  | invalid | absent => rw [ExhaustRec.level', hx]

theorem ExhaustRec.heldFor_valid (hlel : i.lel = .valid x) : r.heldFor i = 0 := by
  simp [ExhaustRec.heldFor, holdStep, hlel, Sample.isValid]

theorem ExhaustRec.heldFor_silent (hlel : i.lel.isValid = false) :
    r.heldFor i = if i.dryer.heated then min (r.hold + i.tables.comm.period) 8589934591 else 0 := by
  rw [ExhaustRec.heldFor, holdStep_silent _ _ hlel]

theorem ExhaustRec.holdOut_valid (hlel : i.lel = .valid x) : r.holdOut i = false := by
  simp [ExhaustRec.holdOut, hlel, Sample.isValid]

/-- The LEL hold of a silent sensor runs out where the dryer is heated and the time, this period counted, is above the
setting. -/
theorem ExhaustRec.holdOut_silent (hlel : i.lel.isValid = false) :
    r.holdOut i = true ↔ i.dryer.heated = true ∧ i.tables.comm.lelHold < r.heldFor i := by
  simp [ExhaustRec.holdOut, hlel]

theorem ExhaustInputs.levelTrips_valid (hlel : i.lel = .valid x) :
    i.levelTrips = decide ((i.tables.comm.lelTrip : Int) ≤ x) := by rw [ExhaustInputs.levelTrips, hlel]

theorem ExhaustInputs.levelTrips_silent (hlel : i.lel.isValid = false) : i.levelTrips = false := by
  cases hx : i.lel with
  | valid x => simp [hx, Sample.isValid] at hlel
  | invalid | absent => rw [ExhaustInputs.levelTrips, hx]

end

/-! ### The damper (R92 to R94, Table 6.2) -/

section
variable (r : ExhaustRec) (i : ExhaustInputs)

theorem ExhaustRec.damper_cold (h : i.dryer = .cold) : r.damper i = 0 := by simp [ExhaustRec.damper, h]

theorem ExhaustRec.damper_purge (h : i.dryer = .purge) : r.damper i = 10000 := by simp [ExhaustRec.damper, h]

theorem ExhaustRec.damper_cooldown (h : i.dryer = .cooldown) : r.damper i = i.tables.comm.exhaustMin := by
  simp [ExhaustRec.damper, h]

theorem ExhaustRec.damper_runOut (h : i.dryer = .run) (hout : r.holdOut i = true) : r.damper i = 10000 := by
  simp [ExhaustRec.damper, h, hout]

variable (hmin : i.tables.comm.exhaustMin ≤ 10000)
include hmin

theorem ExhaustRec.damper_standby (h : i.dryer = .preheat ∨ i.dryer = .ready ∨ i.dryer = .hold) :
    r.damper i = max (i.tables.comm.exhaustMin : Int) (min (i.tables.comm.standbyExhaust : Int) 10000) := by
  rw [← clamp_eq _ (by omega)]
  rcases h with h | h | h <;> simp [ExhaustRec.damper, h]

theorem ExhaustRec.damper_run (h : i.dryer = .run) (hholds : r.holdOut i = false) :
    r.damper i =
      max (i.tables.comm.exhaustMin : Int)
        (min (curveValue i.tables.recipe.damperCurve i.vs + lelTrim i.tables.comm (r.level' i)) 10000) := by
  rw [← clamp_eq _ (by omega)]
  simp [ExhaustRec.damper, h, hholds]

end

section
variable {s : State} (r : ExhaustRec)

/-- While the hold lasts, EXHAUST takes the trim of the level that stands. -/
theorem damperSet_of_holds (hholds : r.holdOut s.exhaustInputs = false) :
    damperSet s (some (r.level' s.exhaustInputs)) (r.damper s.exhaustInputs) := by
  refine ⟨r.damper_cold s.exhaustInputs, r.damper_purge s.exhaustInputs, r.damper_cooldown s.exhaustInputs,
    fun _ hnone => absurd hnone (Option.some_ne_none _),
    fun hmin => ⟨r.damper_standby s.exhaustInputs hmin, fun hrun x hlevel => ?_⟩⟩
  cases hlevel
  exact r.damper_run _ hmin hrun hholds

/-- With the hold run out there is no trim, and EXHAUST opens fully in RUN. -/
theorem damperSet_of_holdOut (hout : r.holdOut s.exhaustInputs = true) :
    damperSet s none (r.damper s.exhaustInputs) :=
  ⟨r.damper_cold s.exhaustInputs, r.damper_purge s.exhaustInputs, r.damper_cooldown s.exhaustInputs,
    fun hrun _ => r.damper_runOut _ hrun hout,
    fun hmin => ⟨r.damper_standby s.exhaustInputs hmin,
      fun _ _ hlevel => absurd hlevel.symm (Option.some_ne_none _)⟩⟩

end

/-! ### The state after stage 4 -/

theorem Cause.mask_getLsbD_bit (c : Cause) : c.mask.getLsbD c.bit = true := by
  have hbit : c.bit < 10 := by cases c <;> simp only [Cause.bit] <;> omega
  rw [Cause.mask, BitVec.getLsbD_ofNat, Nat.testBit_two_pow_self, Bool.and_true]
  exact decide_eq_true hbit

/-- The cause of a trip that arrives is among the causes, at a clear latch and at a set one (R147, R148). -/
theorem tripArrives_cause (c : Cause) (s : State) : (s.tripArrives c).trip.causes.getLsbD c.bit = true := by
  rw [tripArrives_causes]
  split <;> simp [c.mask_getLsbD_bit]

/-- A trip's arrival reads the trip record and the active purge time alone. -/
theorem tripArrives_trip_congr (c : Cause) {s t : State} (htrip : s.trip = t.trip)
    (hactive : s.svc.active = t.svc.active) : (s.tripArrives c).trip = (t.tripArrives c).trip := by
  cases h : t.trip.latch
  · rw [State.tripArrives_clear c t h, State.tripArrives_clear c s (htrip ▸ h), htrip, hactive]
  · rw [State.tripArrives_set c t h, State.tripArrives_set c s (htrip ▸ h), htrip, hactive]

theorem exec_exhaustStage {s : State} {c : Computation} (time : Nat) (hflight : s.engine.flight = some c)
    (hstage : c.stage = .exhaust) : exec (.exhaustStage time) s = .next (takeExhaustStage c (s.advanceTo time)) :=
  congrArg Host.Outcome.next (s.atStage_of c .exhaust _ hflight hstage)

/-- The row LEL_HOLD_RUN_OUT is stage 4 where the hold runs out (R96). -/
theorem exec_lelHoldRunOut {s : State} {c : Computation} (time : Nat) (hflight : s.engine.flight = some c)
    (hstage : c.stage = .exhaust) (hout : s.engine.exhaust.holdOut s.exhaustInputs = true) :
    exec (.lelHoldRunOut time) s = .next (takeExhaustStage c (s.advanceTo time)) :=
  congrArg Host.Outcome.next ((s.atStage_of c .exhaust _ hflight hstage).trans (if_pos hout))

/-- Stage 4 sends a trip: the level at the trip level, or the hold run out (R95, R96). -/
def State.lelTripSent (s : State) : Bool := s.exhaustInputs.levelTrips || s.engine.exhaust.holdOut s.exhaustInputs

/-- Stage 4 but for the trip: the new record and output, and the flag of the alarm finding. -/
def State.exhaustFound (s : State) (c : Computation) : State :=
  { s with engine := s.exhaustEngine c }.latchIf (s.engine.exhaust.step s.exhaustInputs).alarm .lelAlarm

theorem takeExhaustStage_eq (c : Computation) (s : State) :
    takeExhaustStage c s = (s.exhaustFound c).tripIf s.lelTripSent .lel := rfl

theorem exhaustFound_changesOnly (s : State) (c : Computation) :
    ChangesOnly s (s.exhaustFound c) [.engine, .svc, .pins] := by
  intro b hb; cases b <;> simp [Block.Same, State.exhaustFound] at hb ⊢

theorem exhaustFound_trip (s : State) (c : Computation) : (s.exhaustFound c).trip = s.trip := by
  simp [State.exhaustFound]

section
variable (s : State) (c : Computation) (time : Nat)

theorem exhaustInputs_advanceTo : (s.advanceTo time).exhaustInputs = s.exhaustInputs := by simp [State.exhaustInputs]

theorem lelTripSent_advanceTo : (s.advanceTo time).lelTripSent = s.lelTripSent := by
  simp [State.lelTripSent, exhaustInputs_advanceTo]

theorem exhaustStaged_engine : (takeExhaustStage c (s.advanceTo time)).engine = s.exhaustEngine c := by
  simp [takeExhaustStage_eq, State.exhaustFound, State.exhaustEngine, exhaustInputs_advanceTo]

theorem exhaustStaged_svc :
    (takeExhaustStage c (s.advanceTo time)).svc =
      { s.svc with latched := (takeExhaustStage c (s.advanceTo time)).svc.latched } := by
  rw [takeExhaustStage_eq, tripIf_svc, State.exhaustFound, latchIf_svc, State.advanceTo_svc]

/-- LEL_ALARM is latched by the alarm finding alone (R95); the trip's flag is another. -/
theorem exhaustStaged_lelAlarm :
    hasFlag (takeExhaustStage c (s.advanceTo time)).svc.latched .lelAlarm = true ↔
      hasFlag s.svc.latched .lelAlarm = true
        ∨ (s.svc.active.comm.lelAlarm : Int) < s.engine.exhaust.level' s.exhaustInputs := by
  rw [takeExhaustStage_eq, tripIf_hasFlag, State.exhaustFound, latchIf_hasFlag, exhaustInputs_advanceTo]
  simp [ExhaustRec.step, State.exhaustInputs]

theorem exhaustStaged_changesOnly :
    ChangesOnly (s.advanceTo time) (takeExhaustStage c (s.advanceTo time)) [.engine, .svc, .trip, .pins] := by
  rw [takeExhaustStage_eq]
  exact ((exhaustFound_changesOnly _ c).mono (by simp)).trans ((tripIf_changesOnly _ _ _).mono (by simp))

theorem exhaustStaged_quiet (h : s.lelTripSent = false) :
    (takeExhaustStage c (s.advanceTo time)).trip = (s.advanceTo time).trip := by
  rw [takeExhaustStage_eq, lelTripSent_advanceTo, h]
  exact exhaustFound_trip _ c

/-- A trip sent by stage 4 is one trip with cause LEL that arrives at the state moved on to `time`. -/
theorem exhaustStaged_trips (h : s.lelTripSent = true) :
    lelTrips s (takeExhaustStage c (s.advanceTo time)) time := by
  have htrip : (takeExhaustStage c (s.advanceTo time)).trip = ((s.advanceTo time).tripArrives .lel).trip := by
    rw [takeExhaustStage_eq, lelTripSent_advanceTo, h]
    exact tripArrives_trip_congr .lel (exhaustFound_trip _ c) (by simp [State.exhaustFound])
  rw [lelTrips, htrip, tripArrives_firstCause, State.advanceTo_latch, State.advanceTo_firstCause]
  exact ⟨State.tripArrives_latch _ _, tripArrives_cause .lel _, rfl,
    (State.tripArrives_purgeTimer _ _).trans (by simp), State.tripArrives_purgeDone _ _, rfl⟩

end

/-! ### The obligation of stage 4 -/

/-- Settles O29: the trip is sent at the trip level of a VALID level, and at the end of the hold of a silent sensor. -/
theorem exhaustStageSetsTheDamper : Obligations.ExhaustStageSetsTheDamper := by
  refine ⟨fun s c time x hflight hstage hvalid => ⟨_, exec_exhaustStage time hflight hstage, ?_⟩,
    fun s c time hflight hstage hsilent => ⟨_, exec_exhaustStage time hflight hstage, ?_⟩⟩
  · have hlel : s.exhaustInputs.lel = .valid x := hvalid
    have hlevel := s.engine.exhaust.level'_valid hlel
    have hholds := s.engine.exhaust.holdOut_valid hlel
    have hsent : s.lelTripSent = decide ((s.svc.active.comm.lelTrip : Int) ≤ x) := by
      rw [State.lelTripSent, ExhaustInputs.levelTrips_valid hlel, hholds, Bool.or_false]
      rfl
    have hdamper := damperSet_of_holds _ hholds
    have halarm := exhaustStaged_lelAlarm s c time
    rw [hlevel] at hdamper halarm
    rw [exhaustStaged_engine]
    refine ⟨?_, hdamper, halarm, fun h => exhaustStaged_trips s c time (hsent.trans (decide_eq_true h)),
      fun h => exhaustStaged_quiet s c time (hsent.trans (decide_eq_false (not_le.2 h))), rfl,
      exhaustStaged_svc s c time, exhaustStaged_changesOnly s c time⟩
    rw [State.exhaustEngine, ExhaustRec.step, hlevel, ExhaustRec.heldFor_valid _ hlel]
    rfl
  · have hlel : s.exhaustInputs.lel.isValid = false := (Sample.isValid_eq_false_iff _).2 hsilent
    have hlevel := s.engine.exhaust.level'_silent hlel
    have hheld := s.engine.exhaust.heldFor_silent hlel
    have hout := s.engine.exhaust.holdOut_silent hlel
    have hsent : s.lelTripSent = s.engine.exhaust.holdOut s.exhaustInputs := by
      rw [State.lelTripSent, ExhaustInputs.levelTrips_silent hlel, Bool.false_or]
    have halarm := exhaustStaged_lelAlarm s c time
    rw [hlevel] at halarm
    rw [hheld] at hout
    rw [exhaustStaged_engine]
    refine ⟨?_, halarm, fun hnot => ?_, fun hrunOut => ?_, rfl, exhaustStaged_svc s c time,
      exhaustStaged_changesOnly s c time⟩
    · rw [State.exhaustEngine, ExhaustRec.step, hlevel, hheld]
      rfl
    · have hholds := Bool.eq_false_iff.2 (hout.not.2 hnot)
      have hdamper := damperSet_of_holds _ hholds
      rw [hlevel] at hdamper
      exact ⟨hdamper, exhaustStaged_quiet s c time (hsent.trans hholds)⟩
    · have hholdOut := hout.2 hrunOut
      exact ⟨damperSet_of_holdOut _ hholdOut, exhaustStaged_trips s c time (hsent.trans hholdOut),
        exec_lelHoldRunOut time hflight hstage hholdOut⟩

end Sys2Proof.Machine
end

section
/-!
SUPPORT. Proofs about one record in stage 5: the reasons it takes on, and its passage through zone and crossings.
-/
namespace Sys2Proof.Machine

/-! ### Reasons added to a record (R102) -/

/-- The reasons `rs` with `r` added where `found`: at most once, after those held. -/
def withReason (rs : List WasteReason) (found : Bool) (r : WasteReason) : List WasteReason :=
  rs ++ if found = true ∧ r ∉ rs then [r] else []

/-- The reasons `rs` after a list of findings, each with its reason, in order. -/
def withReasons (rs : List WasteReason) (findings : List (Bool × WasteReason)) : List WasteReason :=
  findings.foldl (fun rs f => withReason rs f.1 f.2) rs

theorem Segment.addIf_eq (g : Segment) (found : Bool) (r : WasteReason) :
    g.addIf found r = { g with reasons := withReason g.reasons found r } := by
  cases found with
  | false => simp [Segment.addIf, withReason]
  | true => by_cases h : r ∈ g.reasons <;> simp [Segment.addIf, Segment.addReason, withReason, h]

theorem Segment.addReason_eq (g : Segment) (r : WasteReason) :
    g.addReason r = { g with reasons := withReason g.reasons true r } := g.addIf_eq true r

@[simp] theorem withReason_false (rs : List WasteReason) (r : WasteReason) : withReason rs false r = rs := by
  simp [withReason]

theorem mem_withReason (rs : List WasteReason) (found : Bool) (r x : WasteReason) :
    x ∈ withReason rs found r ↔ x ∈ rs ∨ found = true ∧ x = r := by
  by_cases h : found = true ∧ r ∉ rs
  · simp [withReason, h]
  · have hheld : found = true → r ∈ rs := fun hfound => not_not.1 fun hr => h ⟨hfound, hr⟩
    rw [withReason, if_neg h, List.append_nil]
    exact ⟨.inl, fun hx => hx.elim id fun ⟨hfound, hxr⟩ => hxr ▸ hheld hfound⟩

/-- A reason found twice stands where it was found first. -/
theorem withReason_twice (rs : List WasteReason) (first second : Bool) (r : WasteReason) :
    withReason (withReason rs first r) second r = withReason rs (first || second) r := by
  cases first with
  | false => rw [withReason_false, Bool.false_or]
  | true =>
    have hheld : r ∈ withReason rs true r := (mem_withReason rs true r r).2 (.inr ⟨rfl, rfl⟩)
    rw [Bool.true_or, withReason, if_neg fun h => h.2 hheld, List.append_nil]

theorem mem_withReasons (findings : List (Bool × WasteReason)) (rs : List WasteReason) (x : WasteReason) :
    x ∈ withReasons rs findings ↔ x ∈ rs ∨ (true, x) ∈ findings := by
  induction findings generalizing rs with
  | nil => simp [withReasons]
  | cons f rest ih =>
    refine (ih (withReason rs f.1 f.2)).trans ?_
    rw [mem_withReason, or_assoc, List.mem_cons, Prod.ext_iff, eq_comm (a := true)]

theorem withReasons_append (findings : List (Bool × WasteReason)) (rs : List WasteReason) :
    ∃ added, withReasons rs findings = rs ++ added ∧ added.Sublist (findings.map (·.2)) := by
  induction findings generalizing rs with
  | nil => exact ⟨[], (List.append_nil rs).symm, .slnil⟩
  | cons f rest ih =>
    obtain ⟨added, heq, hsub⟩ := ih (withReason rs f.1 f.2)
    refine ⟨(if f.1 = true ∧ f.2 ∉ rs then [f.2] else []) ++ added, ?_, ?_⟩
    · rw [← List.append_assoc]
      exact heq
    · split
      · exact hsub.cons_cons _
      · exact hsub.cons _

/-! ### Part 4 for one record (R86, R110, R111) -/

/-- An active zone that the midpoint lies in (R110). -/
def Commissioning.within (c : Commissioning) (mid : Int) (z : Nat) : Prop :=
  z < 6 ∧ z < c.zoneCount ∧ (c.zoneStart z : Int) ≤ mid ∧ mid < c.zoneEnd z

theorem zoneAt_eq_some (c : Commissioning) (mid : Int) (z : Nat) :
    c.zoneAt mid = some z ↔ c.within mid z ∧ ∀ y < z, ¬ c.within mid y := by
  have hlies (y : Nat) (hy : y < 6) :
      (c.zoneActive y && (decide ((c.zoneStart y : Int) ≤ mid) && decide (mid < (c.zoneEnd y : Int)))) = true ↔
        c.within mid y := by
    simp [Commissioning.within, Commissioning.zoneActive, hy]
  rw [Commissioning.zoneAt, Commissioning.activeZones, List.find?_filter, List.find?_range_eq_some]
  simp only [Bool.not_eq_true', Bool.eq_false_iff, List.mem_range]
  constructor
  · rintro ⟨hz, hz6, hno⟩
    exact ⟨(hlies z hz6).1 (by simpa using hz),
      fun y hy hin => hno y hy (by simpa using (hlies y (hy.trans hz6)).2 hin)⟩
  · rintro ⟨hin, hno⟩
    exact ⟨by simpa using (hlies z hin.1).2 hin, hin.1,
      fun y hy hp => hno y hy ((hlies y (hy.trans hin.1)).1 (by simpa using hp))⟩

theorem zoneAt_eq_none (c : Commissioning) (mid : Int) : c.zoneAt mid = none ↔ ∀ z, ¬ c.within mid z := by
  simp [Commissioning.zoneAt, mem_activeZones, Commissioning.within]

section
variable {r : ZoneRec} {air : Sample}

theorem doseAir_eq_none : doseAir r air = none ↔ r.state = .off ∨ r.state = .blocked ∨ r.state = .fault := by
  cases hstate : r.state with
  | firing | limited => cases air <;> simp [doseAir, hstate]
  | off | blocked | holding | fault => simp [doseAir, hstate]

theorem doseAir_controlled {a : Int} (hstate : r.state = .firing ∨ r.state = .limited) (hair : air = .valid a) :
    doseAir r air = some a := by
  rcases hstate with h | h <;> simp [doseAir, h, hair]

theorem doseAir_holding (hstate : r.state = .holding) : doseAir r air = some r.lastAir := by
  simp [doseAir, hstate]

end

/-- The air by which zone `z` gives dose in this computation, none where it gives none (R86). -/
def State.airOf (s : State) (z : Nat) : Option Int := doseAir (s.engine.zone z) (s.engine.samples.air z)

/-- The dose of a record with this midpoint after part 4. -/
def State.doseAfter (s : State) (mid : Int) (dose : Nat) : Nat :=
  match (s.svc.active.comm.zoneAt mid).bind s.airOf with
  | some a => min (dose + doseStep s.svc.active.comm a) doseMaximum
  | none => dose

/-- The midpoint lies in a zone that gives no dose. -/
def State.unfedAt (s : State) (mid : Int) : Bool := (s.svc.active.comm.zoneAt mid).any fun z => (s.airOf z).isNone

theorem exposed_eq (g : Segment) (s : State) (odometer : BitVec 32) :
    g.exposed s odometer =
      { g with
        dose := s.doseAfter (g.midpoint odometer s.svc.active.comm.segmentLength) g.dose
        reasons := withReason g.reasons (s.unfedAt (g.midpoint odometer s.svc.active.comm.segmentLength)) .zone } := by
  rw [Segment.exposed, State.doseAfter, State.unfedAt]
  cases s.svc.active.comm.zoneAt (g.midpoint odometer s.svc.active.comm.segmentLength) with
  | none => simp
  | some z =>
    cases h : doseAir (s.engine.zone z) (s.engine.samples.air z) with
    | none => simp [State.airOf, h, Segment.addReason_eq]
    | some a => simp [State.airOf, h]

section
variable (s : State) {mid : Int} (dose : Nat)

theorem doseAfter_outside (h : ∀ z, ¬ s.svc.active.comm.within mid z) : s.doseAfter mid dose = dose := by
  rw [State.doseAfter, (zoneAt_eq_none _ _).2 h]
  rfl

theorem doseAfter_unfed {z : Nat} (hz : s.svc.active.comm.zoneAt mid = some z) (hair : s.airOf z = none) :
    s.doseAfter mid dose = dose := by
  rw [State.doseAfter, hz, Option.bind_some, hair]

theorem doseAfter_fed {z : Nat} {a : Int} (hz : s.svc.active.comm.zoneAt mid = some z) (hair : s.airOf z = some a) :
    s.doseAfter mid dose = min (dose + doseStep s.svc.active.comm a) doseMaximum := by
  rw [State.doseAfter, hz, Option.bind_some, hair]

/-- The dose grows alone, and saturates (R111). -/
theorem doseAfter_bounds (mid : Int) (h : dose ≤ doseMaximum) :
    dose ≤ s.doseAfter mid dose ∧ s.doseAfter mid dose ≤ doseMaximum := by
  rw [State.doseAfter]
  split <;> omega

end

theorem unfedAt_iff (s : State) (mid : Int) :
    s.unfedAt mid = true ↔ ∃ z, s.svc.active.comm.zoneAt mid = some z ∧ s.airOf z = none := by
  rw [State.unfedAt, Option.any_eq_true]
  simp

/-! ### Part 5 for one record (R112 to R115) -/

theorem crossesNow_iff (mid : Int) (mm : Nat) (fresh : Bool) (p : Nat) :
    crossesNow mid mm fresh p = true ↔ (p : Int) ≤ mid ∧ (fresh = true ∨ mid - mm < p) := by
  simp [crossesNow]

/-- The temperature of a record after a crossing: a VALID reading where one is `due`, and otherwise that held. -/
def tempTaken (due : Bool) (held : Option Int) : Sample → Option Int
  | .valid x => if due then some x else held
  | .invalid | .absent => held

/-- The exit reading lies outside the class's limits (R114). -/
def exitBeyond (r : Recipe) (cls : Nat) : Sample → Bool
  | .valid x => decide (x < (r.exitLow cls : Int)) || decide ((r.exitHigh cls : Int) < x)
  | .invalid | .absent => false

/-- The chill exit reading lies above the class's limit (R115). -/
def chillBeyond (r : Recipe) (cls : Nat) : Sample → Bool
  | .valid x => decide ((r.chillExitMax cls : Int) < x)
  | .invalid | .absent => false

section
variable (due : Bool) {held : Option Int} {sample : Sample}

theorem tempTaken_valid {x : Int} (hdue : due = true) (h : sample = .valid x) : tempTaken due held sample = some x := by
  simp [tempTaken, hdue, h]

theorem tempTaken_held (h : ¬ (due = true ∧ ∃ x, sample = .valid x)) : tempTaken due held sample = held := by
  cases sample with
  | valid x =>
    have hdue : due = false := by simpa using h
    simp [tempTaken, hdue]
  | invalid | absent => rfl

end

theorem exitBeyond_iff (r : Recipe) (cls : Nat) (sample : Sample) :
    exitBeyond r cls sample = true ↔
      ∃ x, sample = .valid x ∧ (x < (r.exitLow cls : Int) ∨ (r.exitHigh cls : Int) < x) := by
  cases sample <;> simp [exitBeyond]

theorem chillBeyond_iff (r : Recipe) (cls : Nat) (sample : Sample) :
    chillBeyond r cls sample = true ↔ ∃ x, sample = .valid x ∧ (r.chillExitMax cls : Int) < x := by
  cases sample <;> simp [chillBeyond]

section
variable (g : Segment) (r : Recipe) (now mapped : Bool) (sample : Sample)

theorem takeDryerEnd_eq :
    (if now = true then g.takeDryerEnd r else g) =
      { g with
        reasons := withReason (withReason g.reasons (now && decide (g.dose < r.doseMin g.cls)) .underdose)
          (now && decide (r.doseMax g.cls < g.dose)) .overdose
        judged := g.judged || now } := by
  cases now <;> simp [Segment.takeDryerEnd, Segment.addIf_eq]

theorem takeExit_eq :
    (if now = true then g.takeExit r mapped sample else g) =
      { g with
        reasons := withReason (withReason g.reasons (now && mapped && exitBeyond r g.cls sample) .exitTemp)
          (now && mapped && !sample.isValid) .unmeasured
        exitTemp := tempTaken (now && mapped) g.exitTemp sample } := by
  cases hdue : now && mapped with
  | false =>
    rw [Bool.and_eq_false_iff] at hdue
    rcases hdue with h | h <;> cases sample <;> simp [Segment.takeExit, tempTaken, h]
  | true =>
    obtain ⟨rfl, rfl⟩ := (Bool.and_eq_true _ _).mp hdue
    cases sample <;>
      simp [Segment.takeExit, tempTaken, exitBeyond, Sample.isValid, Segment.addIf_eq, Segment.addReason_eq]

theorem takeChillExit_eq :
    (if now = true then g.takeChillExit r mapped sample else g) =
      { g with
        reasons := withReason (withReason g.reasons (now && mapped && !sample.isValid) .unmeasured)
          (now && mapped && chillBeyond r g.cls sample) .chillHot
        chillTemp := tempTaken (now && mapped) g.chillTemp sample } := by
  cases hdue : now && mapped with
  | false =>
    rw [Bool.and_eq_false_iff] at hdue
    rcases hdue with h | h <;> cases sample <;> simp [Segment.takeChillExit, tempTaken, h]
  | true =>
    obtain ⟨rfl, rfl⟩ := (Bool.and_eq_true _ _).mp hdue
    cases sample <;>
      simp [Segment.takeChillExit, tempTaken, chillBeyond, Sample.isValid, Segment.addIf_eq, Segment.addReason_eq]

end

/-! ### The passage of one record through parts 4 and 5 -/

section
variable (g : Segment) (s : State) (odometer : BitVec 32) (mm : Nat) (fresh : Bool)

/-- The midpoint comes to `position` in this computation. -/
def Segment.comesTo (position : Nat) : Bool :=
  crossesNow (g.midpoint odometer s.svc.active.comm.segmentLength) mm fresh position

/-- The midpoint comes to the exit pyrometer, and its channel is mapped. -/
def Segment.exitDue : Bool :=
  g.comesTo s odometer mm fresh s.svc.active.comm.exitPosition && (s.svc.active.comm.cellOf 13).isSome

/-- The midpoint comes to the chill exit, and its channel is mapped. -/
def Segment.chillDue : Bool :=
  g.comesTo s odometer mm fresh s.svc.active.comm.chillExit && (s.svc.active.comm.cellOf 16).isSome

/-- What a passage with this dose after part 4 finds, in the order of the parts. -/
def Segment.findings (dose : Nat) : List (Bool × WasteReason) :=
  [(s.unfedAt (g.midpoint odometer s.svc.active.comm.segmentLength), .zone),
    (g.comesTo s odometer mm fresh s.svc.active.comm.dryerEnd && decide (dose < s.svc.active.recipe.doseMin g.cls),
      .underdose),
    (g.comesTo s odometer mm fresh s.svc.active.comm.dryerEnd && decide (s.svc.active.recipe.doseMax g.cls < dose),
      .overdose),
    (g.exitDue s odometer mm fresh && exitBeyond s.svc.active.recipe g.cls s.engine.samples.exitWebTemp, .exitTemp),
    (g.exitDue s odometer mm fresh && !s.engine.samples.exitWebTemp.isValid
      || g.chillDue s odometer mm fresh && !s.engine.samples.chillExit.isValid, .unmeasured),
    (g.chillDue s odometer mm fresh && chillBeyond s.svc.active.recipe g.cls s.engine.samples.chillExit, .chillHot)]

/-- The record after parts 4 and 5. -/
def Segment.passed : Segment :=
  let dose := s.doseAfter (g.midpoint odometer s.svc.active.comm.segmentLength) g.dose
  { g with
    dose := dose
    reasons := withReasons g.reasons (g.findings s odometer mm fresh dose)
    exitTemp := tempTaken (g.exitDue s odometer mm fresh) g.exitTemp s.engine.samples.exitWebTemp
    chillTemp := tempTaken (g.chillDue s odometer mm fresh) g.chillTemp s.engine.samples.chillExit
    judged := g.judged || g.comesTo s odometer mm fresh s.svc.active.comm.dryerEnd }

/-- A passage in one: UNMEASURED found at the exit pyrometer and again at the chill exit is one finding, and stands
before CHILL_HOT (R114, R115). -/
theorem passage_eq :
    (g.exposed s odometer).crossed s odometer mm fresh =
      (g.passed s odometer mm fresh, g.comesTo s odometer mm fresh s.svc.active.comm.chillExit) := by
  have hpair (b : Bool) (x y : Segment) :
      (if b = true then (x, true) else (y, false)) = (if b = true then x else y, b) := by cases b <;> rfl
  rw [Segment.crossed, exposed_eq, hpair, takeChillExit_eq, takeExit_eq, takeDryerEnd_eq]
  simp only [withReason_twice]
  rfl

/-- Before the entry reference lies no zone and no crossing (R101). -/
theorem passage_before_entry (h : g.midpoint odometer s.svc.active.comm.segmentLength < 0) :
    (g.exposed s odometer).crossed s odometer mm fresh = (g, false) := by
  have hzone : s.svc.active.comm.zoneAt (g.midpoint odometer s.svc.active.comm.segmentLength) = none :=
    (zoneAt_eq_none _ _).2 fun z ⟨_, _, hstart, _⟩ => by omega
  have hcross (p : Nat) : crossesNow (g.midpoint odometer s.svc.active.comm.segmentLength) mm fresh p = false :=
    Bool.eq_false_iff.2 fun hp => by have := ((crossesNow_iff _ _ _ _).1 hp).1; omega
  have hexposed : g.exposed s odometer = g := by rw [Segment.exposed, hzone]
  simp [hexposed, Segment.crossed, hcross]

end

section
variable {g : Segment} {s : State} {odometer : BitVec 32} {mm : Nat} {fresh : Bool}

theorem comesTo_iff (p : Nat) :
    g.comesTo s odometer mm fresh p = true ↔
      (p : Int) ≤ g.midpoint odometer s.svc.active.comm.segmentLength
        ∧ (fresh = true ∨ g.midpoint odometer s.svc.active.comm.segmentLength - mm < p) := crossesNow_iff _ _ _ _

theorem exitDue_iff :
    g.exitDue s odometer mm fresh = true ↔
      g.comesTo s odometer mm fresh s.svc.active.comm.exitPosition = true
        ∧ (s.svc.active.comm.cellOf 13).isSome = true := Bool.and_eq_true_iff

theorem chillDue_iff :
    g.chillDue s odometer mm fresh = true ↔
      g.comesTo s odometer mm fresh s.svc.active.comm.chillExit = true
        ∧ (s.svc.active.comm.cellOf 16).isSome = true := Bool.and_eq_true_iff

variable {dose : Nat}

theorem found_zone :
    (true, .zone) ∈ g.findings s odometer mm fresh dose ↔
      s.unfedAt (g.midpoint odometer s.svc.active.comm.segmentLength) = true := by simp [Segment.findings]

theorem found_underdose :
    (true, .underdose) ∈ g.findings s odometer mm fresh dose ↔
      g.comesTo s odometer mm fresh s.svc.active.comm.dryerEnd = true ∧ dose < s.svc.active.recipe.doseMin g.cls := by
  simp [Segment.findings]

theorem found_overdose :
    (true, .overdose) ∈ g.findings s odometer mm fresh dose ↔
      g.comesTo s odometer mm fresh s.svc.active.comm.dryerEnd = true ∧ s.svc.active.recipe.doseMax g.cls < dose := by
  simp [Segment.findings]

theorem found_exitTemp :
    (true, .exitTemp) ∈ g.findings s odometer mm fresh dose ↔
      g.exitDue s odometer mm fresh = true ∧ ∃ x, s.engine.samples.exitWebTemp = .valid x
        ∧ (x < s.svc.active.recipe.exitLow g.cls ∨ (s.svc.active.recipe.exitHigh g.cls : Int) < x) := by
  simp [Segment.findings, exitBeyond_iff]

theorem found_unmeasured :
    (true, .unmeasured) ∈ g.findings s odometer mm fresh dose ↔
      g.exitDue s odometer mm fresh = true ∧ (∀ x, s.engine.samples.exitWebTemp ≠ .valid x)
        ∨ g.chillDue s odometer mm fresh = true ∧ ∀ x, s.engine.samples.chillExit ≠ .valid x := by
  simp [Segment.findings, Sample.isValid_eq_false_iff]

theorem found_chillHot :
    (true, .chillHot) ∈ g.findings s odometer mm fresh dose ↔
      g.chillDue s odometer mm fresh = true ∧ ∃ x, s.engine.samples.chillExit = .valid x
        ∧ (s.svc.active.recipe.chillExitMax g.cls : Int) < x := by
  simp [Segment.findings, chillBeyond_iff]

end

theorem Segment.mem_passed_reasons (g : Segment) (s : State) (odometer : BitVec 32) (mm : Nat) (fresh : Bool)
    (x : WasteReason) :
    x ∈ (g.passed s odometer mm fresh).reasons ↔
      x ∈ g.reasons ∨ (true, x) ∈ g.findings s odometer mm fresh
        (s.doseAfter (g.midpoint odometer s.svc.active.comm.segmentLength) g.dose) := mem_withReasons _ _ x

/-- Settles O33: the passage in one (`passage_eq`), item by item. -/
theorem segmentsKeepWhatTheyHold : Obligations.SegmentsKeepWhatTheyHold := by
  intro s g odometer mm fresh hdose out m recipe mid crosses within state noDose air exitMapped chillMapped
  have hout : out = (g.passed s odometer mm fresh, g.comesTo s odometer mm fresh m.chillExit) := passage_eq ..
  have hcross (p : Nat) : g.comesTo s odometer mm fresh p = true ↔ crosses p := comesTo_iff p
  have hfirst (z : Nat) (hz : within z) (hno : ∀ y < z, ¬ within y) : m.zoneAt mid = some z :=
    (zoneAt_eq_some m mid z).2 ⟨hz, hno⟩
  have hbounds := doseAfter_bounds s g.dose mid hdose
  have hnoDose (z : Nat) : s.airOf z = none ↔ noDose z := doseAir_eq_none
  have hair (z : Nat) (a : Int) (h : air z a) : s.airOf z = some a := by
    rcases h with ⟨hstate, ha⟩ | ⟨hstate, rfl⟩
    · exact doseAir_controlled hstate ha
    · exact doseAir_holding hstate
  have hfound {x : WasteReason} := g.mem_passed_reasons s odometer mm fresh x
  have hexit : g.exitDue s odometer mm fresh = true ↔ crosses m.exitPosition ∧ exitMapped :=
    exitDue_iff.trans (and_congr_left' (hcross _))
  have hchill : g.chillDue s odometer mm fresh = true ↔ crosses m.chillExit ∧ chillMapped :=
    chillDue_iff.trans (and_congr_left' (hcross _))
  have hunfed : s.unfedAt mid = true ↔ ∃ z, within z ∧ (∀ y < z, ¬ within y) ∧ noDose z := by
    rw [unfedAt_iff]
    exact exists_congr fun z => by rw [hnoDose, zoneAt_eq_some, and_assoc]; rfl
  rw [hout]
  refine ⟨rfl, rfl, rfl, hbounds.1, hbounds.2, fun z hz hno => ⟨fun a ha => ?_, fun hunfedZone => ?_⟩,
    fun hno => ?_, ?_, ?_, ?_, ?_, ?_, ?_, ?_, ?_, ?_, ?_, ?_, ?_, hcross _⟩
  · exact doseAfter_fed s g.dose (hfirst z hz hno) (hair z a ha)
  · exact doseAfter_unfed s g.dose (hfirst z hz hno) ((hnoDose z).2 hunfedZone)
  · exact doseAfter_outside s g.dose hno
  · exact withReasons_append _ _
  · exact hfound.trans (or_congr_right (found_zone.trans hunfed))
  · exact hfound.trans (or_congr_right (found_underdose.trans (and_congr_left' (hcross _))))
  · exact hfound.trans (or_congr_right (found_overdose.trans (and_congr_left' (hcross _))))
  · exact hfound.trans (or_congr_right (found_exitTemp.trans ((and_congr_left' hexit).trans and_assoc)))
  · exact hfound.trans (or_congr_right (found_chillHot.trans ((and_congr_left' hchill).trans and_assoc)))
  · exact hfound.trans (or_congr_right (found_unmeasured.trans
      (or_congr ((and_congr_left' hexit).trans and_assoc) ((and_congr_left' hchill).trans and_assoc))))
  · exact Bool.or_eq_true_iff.trans (or_congr_right (hcross _))
  · exact fun x hx hmapped hvalid => tempTaken_valid _ (hexit.2 ⟨hx, hmapped⟩) hvalid
  · exact fun hnot => tempTaken_held _ fun ⟨hdue, hvalid⟩ => hnot ⟨(hexit.1 hdue).1, (hexit.1 hdue).2, hvalid⟩
  · exact fun x hx hmapped hvalid => tempTaken_valid _ (hchill.2 ⟨hx, hmapped⟩) hvalid
  · exact fun hnot => tempTaken_held _ fun ⟨hdue, hvalid⟩ => hnot ⟨(hchill.1 hdue).1, (hchill.1 hdue).2, hvalid⟩

end Sys2Proof.Machine
end

section
/-!
SUPPORT. Proofs about stage 5 as a whole: the track counters over a list of retirements, admission, the flush, and the
stage without a flush.
-/
namespace Sys2Proof.Machine

/-! ### The track counters over a list of retirements (R143) -/

/-- A counter that every retirement of a segment with `p` moves on by one counts the segments with `p`. -/
theorem retireAll_counter {count : TrackCounters → BitVec 32} {p : Segment → Bool}
    (h : ∀ k g, count (k.retire g) = count k + BitVec.ofNat 32 (bit (p g))) (k : TrackCounters) (gs : List Segment) :
    count (k.retireAll gs) = count k + BitVec.ofNat 32 (gs.countP p) := by
  induction gs generalizing k with
  | nil => exact (BitVec.add_zero _).symm
  | cons g rest ih =>
    calc count ((k.retire g).retireAll rest)
        = count k + BitVec.ofNat 32 (bit (p g)) + BitVec.ofNat 32 (rest.countP p) := by rw [ih, h]
      _ = count k + BitVec.ofNat 32 ((g :: rest).countP p) := by
        rw [BitVec.add_assoc, ← BitVec.ofNat_add, List.countP_cons, Nat.add_comm]
        rfl

section
variable (k : TrackCounters) (g : Segment)

theorem isWaste_eq : g.isWaste = decide (g.reasons ≠ []) := by
  rw [Segment.isWaste]
  cases g.reasons <;> rfl

theorem retire_admitted : (k.retire g).admitted = k.admitted := by
  rw [TrackCounters.retire]
  split <;> rfl

theorem retire_good : (k.retire g).good = k.good + BitVec.ofNat 32 (bit (decide (g.reasons = []))) := by
  by_cases h : g.reasons = [] <;> simp [TrackCounters.retire, isWaste_eq, h, bit]

theorem retire_waste : (k.retire g).waste = k.waste + BitVec.ofNat 32 (bit (decide (g.reasons ≠ []))) := by
  by_cases h : g.reasons = [] <;> simp [TrackCounters.retire, isWaste_eq, h, bit]

/-- The counter of a reason stands at the place of its code; a GOOD segment counts under none. -/
theorem retire_reason (r : WasteReason) :
    (k.retire g).reasons.getD (reasonNumber (some r) - 1) 0 =
      k.reasons.getD (reasonNumber (some r) - 1) 0 + BitVec.ofNat 32 (bit (decide (r ∈ g.reasons))) := by
  by_cases h : g.reasons = []
  · simp [TrackCounters.retire, isWaste_eq, h, bit]
  · have hplace : allReasons[reasonNumber (some r) - 1]? = some r := by cases r <;> rfl
    have hcode : r.code = reasonNumber (some r) := (reasonNumber_eq_code (some r)).symm
    simp [TrackCounters.retire, isWaste_eq, h, List.getD_eq_getElem?_getD, hplace, hcode]

end

section
variable (k : TrackCounters) (gs : List Segment)

theorem retireAll_admitted : (k.retireAll gs).admitted = k.admitted := by
  induction gs generalizing k with
  | nil => rfl
  | cons g rest ih => exact (ih (k.retire g)).trans (retire_admitted k g)

theorem retireAll_good : (k.retireAll gs).good = k.good + BitVec.ofNat 32 (gs.countP fun g => g.reasons = []) :=
  retireAll_counter retire_good k gs

theorem retireAll_waste : (k.retireAll gs).waste = k.waste + BitVec.ofNat 32 (gs.countP fun g => g.reasons ≠ []) :=
  retireAll_counter retire_waste k gs

theorem retireAll_reason (r : WasteReason) :
    (k.retireAll gs).reasons.getD (reasonNumber (some r) - 1) 0 =
      k.reasons.getD (reasonNumber (some r) - 1) 0 + BitVec.ofNat 32 (gs.countP fun g => r ∈ g.reasons) :=
  retireAll_counter (count := fun k => k.reasons.getD (reasonNumber (some r) - 1) 0)
    (fun k g => retire_reason k g r) k gs

end

/-! ### Admission (R106 to R109) -/

theorem mark_step (mark : BitVec 32) (length i : Nat) :
    mark + BitVec.ofNat 32 length + BitVec.ofNat 32 (i * length) = mark + BitVec.ofNat 32 ((i + 1) * length) := by
  rw [BitVec.add_assoc, ← BitVec.ofNat_add, Nat.add_mul, Nat.one_mul, Nat.add_comm]

theorem seq_step (seq : BitVec 16) (i : Nat) : seq + 1#16 + BitVec.ofNat 16 i = seq + BitVec.ofNat 16 (i + 1) := by
  rw [BitVec.add_assoc, Nat.add_comm i 1, BitVec.ofNat_add]

section
variable (t : TrackRec) (cls : Nat) (reasons : List WasteReason) (length : Nat)

/-- The mark of the first segment admitted: the next mark of an anchored track, and otherwise the odometer. -/
def TrackRec.firstMark : BitVec 32 := if t.anchored then t.nextMark else t.odometer

/-- The segment that `i` others of this computation go before. -/
def TrackRec.newSegment (i : Nat) : Segment :=
  { seq := t.nextSeq + BitVec.ofNat 16 i
    mark := t.firstMark + BitVec.ofNat 32 (i * length)
    cls := cls
    dose := 0
    reasons := reasons
    exitTemp := none
    chillTemp := none
    judged := false }

/-- The `n` segments admitted in one computation. -/
def TrackRec.newSegments (n : Nat) : List Segment := (List.range n).map (t.newSegment cls reasons length)

/-- The track with `n` segments more; one segment anchors it. -/
def TrackRec.grown (n : Nat) : TrackRec :=
  { t with
    records := t.records ++ t.newSegments cls reasons length n
    nextSeq := t.nextSeq + BitVec.ofNat 16 n
    anchored := t.anchored || decide (0 < n)
    nextMark := if t.anchored = true ∨ 0 < n then t.firstMark + BitVec.ofNat 32 (n * length) else t.nextMark }

/-- With `i` segments admitted, the next mark has reached the entry reference and the track has room (R108, R109). -/
def TrackRec.due (i : Nat) : Prop :=
  (t.odometer - (t.nextMark + BitVec.ofNat 32 (i * length))).toNat < 2 ^ 31 ∧ t.records.length + i < 128

theorem newSegments_length (n : Nat) : (t.newSegments cls reasons length n).length = n := by
  simp [TrackRec.newSegments]

theorem newSegments_getElem? {n i : Nat} {g : Segment} (h : (t.newSegments cls reasons length n)[i]? = some g) :
    g = t.newSegment cls reasons length i := by
  rw [TrackRec.newSegments, List.getElem?_map, Option.map_eq_some_iff] at h
  obtain ⟨j, hj, rfl⟩ := h
  obtain ⟨_, rfl⟩ := List.getElem?_eq_some_iff.1 hj
  rw [List.getElem_range]

/-- The track with one segment more at its next mark (R109). -/
def TrackRec.admitNext : TrackRec :=
  { t.admitOne t.nextMark cls reasons with nextMark := t.nextMark + BitVec.ofNat 32 length }

variable {t}

theorem firstMark_anchored (h : t.anchored = true) : t.firstMark = t.nextMark := if_pos h

theorem firstMark_unanchored (h : t.anchored = false) : t.firstMark = t.odometer := if_neg (ne_true_of_eq_false h)

theorem grown_nextMark {n : Nat} (h : t.anchored = true ∨ 0 < n) :
    (t.grown cls reasons length n).nextMark = t.firstMark + BitVec.ofNat 32 (n * length) := if_pos h

/-- Where admission stops short, the next mark has not reached the entry reference, or the track is full (R108,
R109). -/
theorem not_due_grown {n : Nat} (h : t.anchored = true) (hdue : ¬ t.due length n) :
    2 ^ 31 ≤ (t.odometer - (t.grown cls reasons length n).nextMark).toNat ∨ 128 ≤ t.records.length + n := by
  rwa [TrackRec.due, not_and_or, not_lt, not_lt, ← firstMark_anchored h,
    ← grown_nextMark cls reasons length (.inl h)] at hdue

theorem grown_anchored {n : Nat} (h : t.anchored = true ∨ 0 < n) : (t.grown cls reasons length n).anchored = true := by
  simpa [TrackRec.grown] using h

theorem grown_zero : t.grown cls reasons length 0 = t := by
  cases h : t.anchored <;> cases t <;> simp_all [TrackRec.grown, TrackRec.newSegments, TrackRec.firstMark]

theorem admitNext_due (i : Nat) : (t.admitNext cls reasons length).due length i ↔ t.due length (i + 1) := by
  have hroom : (t.admitNext cls reasons length).records.length + i = t.records.length + (i + 1) := by
    simp [TrackRec.admitNext, TrackRec.admitOne]
    omega
  rw [TrackRec.due, TrackRec.due, hroom, ← mark_step]
  rfl

section
variable (h : t.anchored = true)
include h

theorem admitNext_newSegment (i : Nat) :
    (t.admitNext cls reasons length).newSegment cls reasons length i = t.newSegment cls reasons length (i + 1) := by
  have hnext : (t.admitNext cls reasons length).anchored = true := h
  rw [TrackRec.newSegment, firstMark_anchored hnext, TrackRec.newSegment, firstMark_anchored h, ← mark_step, ← seq_step]
  rfl

theorem grown_succ (n : Nat) :
    (t.admitNext cls reasons length).grown cls reasons length n = t.grown cls reasons length (n + 1) := by
  have hrecords : (t.admitNext cls reasons length).records =
      t.records ++ [t.newSegment cls reasons length 0] := by
    simp [TrackRec.admitNext, TrackRec.admitOne, TrackRec.newSegment, firstMark_anchored h]
  have hnews : (t.admitNext cls reasons length).newSegments cls reasons length n =
      (List.range n).map fun i => t.newSegment cls reasons length (i + 1) :=
    List.map_congr_left fun i _ => admitNext_newSegment cls reasons length h i
  rw [TrackRec.grown, TrackRec.grown, hrecords, hnews, firstMark_anchored h,
    firstMark_anchored (t := t.admitNext cls reasons length) h, TrackRec.newSegments, List.range_succ_eq_map]
  simp [TrackRec.admitNext, TrackRec.admitOne, h, mark_step, seq_step, Function.comp_def]

/-- The segments due while anchored are admitted one after another, up to the first that is not due. -/
theorem admitDue_spec (fuel : Nat) :
    ∃ n ≤ fuel, t.admitDue cls reasons length fuel = t.grown cls reasons length n
      ∧ (∀ i < n, t.due length i) ∧ (n < fuel → ¬ t.due length n) := by
  induction fuel generalizing t with
  | zero => exact ⟨0, le_rfl, (grown_zero ..).symm, nofun, nofun⟩
  | succ fuel ih =>
    have hnow : (t.odometer - t.nextMark).toNat < 2 ^ 31 ∧ t.records.length < 128 ↔ t.due length 0 := by
      simp [TrackRec.due]
    by_cases hdue : t.due length 0
    · obtain ⟨n, hn, heq, hall, hstop⟩ := ih (t := t.admitNext cls reasons length) h
      refine ⟨n + 1, Nat.succ_le_succ hn, ?_, fun i hi => ?_, fun hlt => ?_⟩
      · rw [← grown_succ cls reasons length h, ← heq]
        exact if_pos (hnow.2 hdue)
      · cases i with
        | zero => exact hdue
        | succ i => exact (admitNext_due cls reasons length i).1 (hall i (Nat.lt_of_succ_lt_succ hi))
      · exact fun hnext => hstop (Nat.lt_of_succ_lt_succ hlt) ((admitNext_due cls reasons length n).2 hnext)
    · exact ⟨0, Nat.zero_le _, (if_neg (hnow.not.2 hdue)).trans (grown_zero ..).symm, nofun, fun _ => hdue⟩

end

/-- `n` is the number of segments that part 3 admits to the track `t`, which moved by `mm` (R107 to R109). -/
structure TrackRec.Admits (t : TrackRec) (length mm n : Nat) : Prop where
  anchored : t.anchored = true → n ≤ 4 ∧ (∀ i < n, t.due length i) ∧ (n < 4 → ¬ t.due length n)
  anchoring : t.anchored = false → 1 ≤ mm → t.records.length < 128 → n = 1
  waiting : t.anchored = false → mm = 0 ∨ 128 ≤ t.records.length → n = 0

/-- Part 3: an anchored track takes what is due, an unanchored one that moves is anchored by one segment. -/
theorem admission_spec (t : TrackRec) (mm : Nat) :
    ∃ n, t.admission mm cls reasons length = t.grown cls reasons length n ∧ t.Admits length mm n := by
  cases h : t.anchored with
  | true =>
    obtain ⟨n, hn, heq, hall, hstop⟩ := admitDue_spec cls reasons length h 4
    have hnot : t.anchored ≠ false := ne_false_of_eq_true h
    exact ⟨n, (if_pos h).trans heq,
      { anchored := fun _ => ⟨hn, hall, hstop⟩
        anchoring := fun hno => absurd hno hnot
        waiting := fun hno => absurd hno hnot }⟩
  | false =>
    have hnot : t.anchored ≠ true := ne_true_of_eq_false h
    have hadmission : t.admission mm cls reasons length =
        if 1 ≤ mm ∧ t.records.length < 128 then t.grown cls reasons length 1 else t := by
      simp [TrackRec.admission, TrackRec.admitOne, TrackRec.grown, TrackRec.newSegments, TrackRec.newSegment,
        TrackRec.firstMark, h]
    by_cases hroom : 1 ≤ mm ∧ t.records.length < 128
    · exact ⟨1, hadmission.trans (if_pos hroom),
        { anchored := fun hyes => absurd hyes hnot
          anchoring := fun _ _ _ => rfl
          waiting := fun _ hnone => by omega }⟩
    · exact ⟨0, hadmission.trans ((if_neg hroom).trans (grown_zero ..).symm),
        { anchored := fun hyes => absurd hyes hnot
          anchoring := fun _ hmm hlen => absurd ⟨hmm, hlen⟩ hroom
          waiting := fun _ _ => rfl }⟩

end

/-! ### Stage 5 as a whole (R103) -/

theorem exec_trackStage {s : State} {c : Computation} (hflight : s.engine.flight = some c) (hstage : c.stage = .track) :
    exec .trackStage s = .next (takeTrackStage c s) :=
  congrArg Host.Outcome.next (s.atStage_of c .track _ hflight hstage)

/-- The mm that stage 5 moves the odometer on. -/
def State.moved (s : State) : Nat := s.engine.track.advanceBy s.engine.speed.v s.svc.active.comm.period

/-- The track after part 1. -/
def State.advancedTrack (s : State) : TrackRec :=
  s.engine.track.advanced s.engine.speed.v s.svc.active.comm.period

section
variable (s : State) (n : Nat)

/-- The segments admitted by stage 5, where they are `n`. -/
def State.admitted : List Segment :=
  s.advancedTrack.newSegments (coverageClass s.engine.samples.inkCoverage)
    (admissionReasons s.engine.dryer.state s.engine.samples.splice) s.svc.active.comm.segmentLength n

/-- A record's passage through parts 4 and 5 of this computation. -/
def State.passage (fresh : Bool) (g : Segment) : Segment × Bool :=
  (g.exposed s s.advancedTrack.odometer).crossed s s.advancedTrack.odometer s.moved fresh

/-- Every record's passage, with `n` segments admitted. -/
def State.passages : List (Segment × Bool) :=
  s.engine.track.records.map (s.passage false) ++ (s.admitted n).map (s.passage true)

/-- The retirements in head order. -/
def State.retirements : List Segment := ((s.passages n).filter fun o => o.2).map (·.1)

/-- The track that admission leaves, with `n` segments admitted. -/
def State.grownTrack : TrackRec :=
  s.advancedTrack.grown (coverageClass s.engine.samples.inkCoverage)
    (admissionReasons s.engine.dryer.state s.engine.samples.splice) s.svc.active.comm.segmentLength n

/-- The result of stage 5 without a flush, with `n` segments admitted. -/
def State.ranResult : TrackResult :=
  { track := { s.grownTrack n with records := ((s.passages n).filter fun o => !o.2).map (·.1) }
    counters := { s.engine.counters with
      admitted := s.engine.counters.admitted + BitVec.ofNat 32 n }.retireAll (s.retirements n)
    retired := s.retirements n }

end

theorem tripFlush_iff (s : State) : s.tripFlush = true ↔ s.trip.latch = true ∨ s.trip.flushMark = true := by
  simp [State.tripFlush]

theorem configFlush_iff (c : Computation) : c.configFlush = true ↔ c.node = .config ∨ c.activated = true := by
  simp [Computation.configFlush]

theorem trackResult_run {s : State} {c : Computation} (htrip : s.tripFlush = false) (hconfig : c.configFlush = false) :
    s.trackResult c = s.runResult s.advancedTrack s.moved := by
  rw [State.trackResult, htrip, hconfig]
  rfl

theorem trackResult_flush {s : State} {c : Computation} (h : s.tripFlush = true ∨ c.configFlush = true) :
    s.trackResult c = s.flushResult s.advancedTrack s.tripFlush c.configFlush :=
  if_pos (Bool.or_eq_true _ _ ▸ h)

theorem runResult_eq (s : State) :
    ∃ n, s.runResult s.advancedTrack s.moved = s.ranResult n
      ∧ s.advancedTrack.Admits s.svc.active.comm.segmentLength s.moved n := by
  obtain ⟨n, hadmission, hadmits⟩ := admission_spec (coverageClass s.engine.samples.inkCoverage)
    (admissionReasons s.engine.dryer.state s.engine.samples.splice) s.svc.active.comm.segmentLength s.advancedTrack
    s.moved
  have hrecords : (s.grownTrack n).records = s.advancedTrack.records ++ s.admitted n := rfl
  have htravelled : s.travelled (s.grownTrack n) s.moved s.advancedTrack.records.length = s.passages n := by
    rw [State.travelled, hrecords, List.take_left, List.drop_left]
    rfl
  have hcount : (s.grownTrack n).records.length - s.advancedTrack.records.length = n := by
    simp [hrecords, State.admitted, newSegments_length]
  have hgrown : s.advancedTrack.admission s.moved _ _ _ = s.grownTrack n := hadmission
  refine ⟨n, ?_, hadmits⟩
  simp only [State.runResult, hgrown]
  rw [htravelled, hcount]
  rfl

/-- What stage 5 writes where its result is `out`. -/
def State.trackWritten (s : State) (c : Computation) (out : TrackResult) : State :=
  { s with
    engine := { s.engine with
      track := out.track
      counters := out.counters
      flight := some { c with stage := .chill, retired := out.retired } }
    trip := { s.trip with flushMark := false } }

theorem takeTrackStage_eq (c : Computation) (s : State) : takeTrackStage c s = s.trackWritten c (s.trackResult c) := rfl

theorem trackResult_advance (s : State) (c : Computation) :
    (s.trackResult c).track.odometer = s.advancedTrack.odometer
      ∧ (s.trackResult c).track.residue = s.advancedTrack.residue := by
  by_cases h : s.tripFlush = true ∨ c.configFlush = true
  · rw [trackResult_flush h]
    exact ⟨rfl, rfl⟩
  · rw [not_or, Bool.not_eq_true, Bool.not_eq_true] at h
    obtain ⟨n, hresult, _⟩ := runResult_eq s
    rw [trackResult_run h.1 h.2, hresult]
    exact ⟨rfl, rfl⟩

theorem trackWritten_changesOnly (s : State) (c : Computation) (out : TrackResult) :
    ChangesOnly s (s.trackWritten c out) [.engine, .trip] := by
  intro b hb; cases b <;> simp [Block.Same, State.trackWritten] at hb ⊢

/-- Settles O30: with a flush and without, the track is that of part 1 in odometer and residue. -/
theorem trackStageMovesTheOdometer : Obligations.TrackStageMovesTheOdometer := fun s c hflight hstage =>
  ⟨_, exec_trackStage hflight hstage, (trackResult_advance s c).1, (trackResult_advance s c).2, rfl, ⟨_, rfl⟩,
    trackWritten_changesOnly s c _⟩

/-! ### The flush (R104, R105) -/

theorem flushed_eq (g : Segment) (tripSeen configured : Bool) :
    g.flushed tripSeen configured = { g with
      reasons := g.reasons ++ (if tripSeen = true ∧ .break_ ∉ g.reasons then [.break_] else [])
        ++ (if configured = true ∧ .config ∉ g.reasons then [.config] else []) } := by
  have hconfig : .config ∈ withReason g.reasons tripSeen .break_ ↔ .config ∈ g.reasons := by
    simp [mem_withReason]
  have hreasons : withReason (withReason g.reasons tripSeen .break_) configured .config =
      g.reasons ++ (if tripSeen = true ∧ .break_ ∉ g.reasons then [.break_] else [])
        ++ (if configured = true ∧ .config ∉ g.reasons then [.config] else []) :=
    congrArg (withReason g.reasons tripSeen .break_ ++ ·) (if_congr (and_congr_right' (not_congr hconfig)) rfl rfl)
  rw [Segment.flushed, Segment.addIf_eq, Segment.addIf_eq, ← hreasons]

/-- A flush has a reason for every record it retires. -/
theorem flushed_reasons_ne_nil (g : Segment) {tripSeen configured : Bool} (h : tripSeen = true ∨ configured = true) :
    (g.flushed tripSeen configured).reasons ≠ [] := by
  rw [Segment.flushed, Segment.addIf_eq, Segment.addIf_eq]
  rcases h with h | h
  · exact List.ne_nil_of_mem ((mem_withReason _ _ _ .break_).2 (.inl ((mem_withReason _ _ _ _).2 (.inr ⟨h, rfl⟩))))
  · exact List.ne_nil_of_mem ((mem_withReason _ _ _ .config).2 (.inr ⟨h, rfl⟩))

/-- Settles O31: the flush retires each record with the reasons of `flushed_eq`, all of them WASTE. -/
theorem flushRetiresTheWholeTrack : Obligations.FlushRetiresTheWholeTrack := by
  intro s c hflight hstage hcondition
  have hflush : s.tripFlush = true ∨ c.configFlush = true := by
    rwa [tripFlush_iff, configFlush_iff, or_assoc]
  let gone := s.engine.track.records.map fun g => g.flushed s.tripFlush c.configFlush
  have hreasons : ∀ g ∈ gone, g.reasons ≠ [] := List.forall_mem_map.2 fun g _ => flushed_reasons_ne_nil g hflush
  have hlength : gone.length = s.engine.track.records.length := List.length_map _
  have hwaste : gone.countP (fun g => g.reasons ≠ []) = s.engine.track.records.length :=
    (List.countP_eq_length.2 fun g hg => decide_eq_true (hreasons g hg)).trans hlength
  have hgood : gone.countP (fun g => g.reasons = []) = 0 :=
    List.countP_eq_zero.2 fun g hg h => hreasons g hg (of_decide_eq_true h)
  refine ⟨s.trackWritten c (s.flushResult s.advancedTrack s.tripFlush c.configFlush), gone, ?_, rfl, rfl, rfl, rfl,
    rfl, hlength, fun i g hg => ?_, ?_, retireAll_reason _ gone, ?_, retireAll_admitted _ gone⟩
  · rw [exec_trackStage hflight hstage, takeTrackStage_eq, trackResult_flush hflush]
  · rw [List.getElem?_map, hg, Option.map_some, flushed_eq]
    simp only [tripFlush_iff, configFlush_iff]
  · exact (retireAll_waste _ gone).trans (by rw [hwaste])
  · exact (retireAll_good _ gone).trans (by rw [hgood]; exact BitVec.add_zero _)

/-! ### Stage 5 without a flush (R106 to R115) -/

theorem classNow_eq (s : State) : classNow s = coverageClass s.engine.samples.inkCoverage := by
  cases h : s.engine.samples.inkCoverage with
  | valid v =>
    rw [classNow, h]
    exact congrArg Int.toNat (clamp_zero v 3).symm
  | invalid | absent =>
    rw [classNow, h]
    rfl

/-- A segment admitted at the odometer passes unchanged: its midpoint lies before the entry reference (R107). -/
theorem passage_at_odometer (s : State) (fresh : Bool) {g : Segment} (hmark : g.mark = s.advancedTrack.odometer)
    (hlength : 2 ≤ s.svc.active.comm.segmentLength) : s.passage fresh g = (g, false) := by
  refine passage_before_entry g s _ _ fresh ?_
  have hposition : g.position s.advancedTrack.odometer = 0 := by simp [Segment.position, hmark]
  rw [Segment.midpoint, hposition]
  omega

section
variable {s : State} {c : Computation}

/-- Without a flush stage 5 admits some `n` segments, and passes every record. -/
theorem trackStage_run (hflight : s.engine.flight = some c) (hstage : c.stage = .track) (hlatch : s.trip.latch = false)
    (hmark : s.trip.flushMark = false) (hnode : c.node ≠ .config) (hactivated : c.activated = false) :
    ∃ n, exec .trackStage s = .next (s.trackWritten c (s.ranResult n))
      ∧ s.advancedTrack.Admits s.svc.active.comm.segmentLength s.moved n := by
  have htrip : s.tripFlush = false := Bool.eq_false_iff.2 ((tripFlush_iff s).not.2 (by simp [hlatch, hmark]))
  have hconfig : c.configFlush = false := Bool.eq_false_iff.2 ((configFlush_iff c).not.2 (by simp [hnode, hactivated]))
  obtain ⟨n, hresult, hadmits⟩ := runResult_eq s
  refine ⟨n, ?_, hadmits⟩
  rw [exec_trackStage hflight hstage, takeTrackStage_eq, trackResult_run htrip hconfig, hresult]

end

/-- Where no record stood in the track and those admitted pass unchanged, the track stands as admission left it. -/
theorem ranResult_unchanged {s : State} {n : Nat} (hempty : s.engine.track.records = [])
    (hpass : ∀ g ∈ s.admitted n, s.passage true g = (g, false)) :
    s.ranResult n =
      { track := s.grownTrack n
        counters := { s.engine.counters with admitted := s.engine.counters.admitted + BitVec.ofNat 32 n }
        retired := [] } := by
  have hpassages : s.passages n = (s.admitted n).map fun g => (g, false) := by
    rw [State.passages, hempty]
    exact List.map_congr_left hpass
  have hgone : s.retirements n = [] := by simp [State.retirements, hpassages]
  have hstay : ((s.passages n).filter fun o => !o.2).map (·.1) = (s.grownTrack n).records := by
    have hrecords : (s.grownTrack n).records = s.engine.track.records ++ s.admitted n := rfl
    rw [hpassages, hrecords, hempty]
    simp [List.filter_map, Function.comp_def]
  rw [State.ranResult, hgone, hstay]
  rfl

/-- The segment that anchors the track (R107). -/
theorem admitted_one {s : State} (hanchored : s.engine.track.anchored = false) :
    s.admitted 1 =
      [{ seq := s.engine.track.nextSeq
         mark := s.advancedTrack.odometer
         cls := classNow s
         dose := 0
         reasons := admissionReasons s.engine.dryer.state s.engine.samples.splice
         exitTemp := none
         chillTemp := none
         judged := false }] := by
  have hfirst : s.advancedTrack.firstMark = s.advancedTrack.odometer := firstMark_unanchored hanchored
  rw [classNow_eq]
  simp [State.admitted, TrackRec.newSegments, TrackRec.newSegment, hfirst]
  rfl

theorem grownTrack_anchored {s : State} {n : Nat} (h : s.engine.track.anchored = true ∨ 0 < n) :
    (s.grownTrack n).anchored = true := grown_anchored _ _ _ h

theorem grownTrack_nextMark_anchored {s : State} {n : Nat} (h : s.engine.track.anchored = true) :
    (s.grownTrack n).nextMark =
      s.engine.track.nextMark + BitVec.ofNat 32 (n * s.svc.active.comm.segmentLength) := by
  have hanchored : s.advancedTrack.anchored = true := h
  rw [State.grownTrack, grown_nextMark _ _ _ (.inl hanchored), firstMark_anchored hanchored]
  rfl

theorem grownTrack_not_due {s : State} {n : Nat} (h : s.engine.track.anchored = true)
    (hdue : ¬ s.advancedTrack.due s.svc.active.comm.segmentLength n) :
    2 ^ 31 ≤ (s.advancedTrack.odometer - (s.grownTrack n).nextMark).toNat ∨ 128 ≤ s.engine.track.records.length + n :=
  not_due_grown _ _ _ h hdue

theorem grownTrack_nextMark_one {s : State} (h : s.engine.track.anchored = false) :
    (s.grownTrack 1).nextMark = s.advancedTrack.odometer + BitVec.ofNat 32 s.svc.active.comm.segmentLength := by
  have hanchored : s.advancedTrack.anchored = false := h
  rw [State.grownTrack, grown_nextMark _ _ _ (.inr Nat.one_pos), firstMark_unanchored hanchored, Nat.one_mul]

/-- Settles O32: without a flush the stage is `ranResult` for the number of segments that `admission_spec` gives. -/
theorem firstAdmissionAnchorsTheTrack : Obligations.FirstAdmissionAnchorsTheTrack := by
  refine ⟨fun s c hflight hstage hlatch hmark hnode hactivated hanchored hempty hlength => ?_,
    fun s c hflight hstage hlatch hmark hnode hactivated => ?_⟩
  · obtain ⟨n, hexec, hadmits⟩ := trackStage_run hflight hstage hlatch hmark hnode hactivated
    refine ⟨_, hexec, fun hmoved => ?_, fun hmoved => ?_⟩
    · obtain rfl := hadmits.waiting hanchored (.inl hmoved)
      rw [ranResult_unchanged hempty (fun g hg => absurd hg List.not_mem_nil), State.grownTrack, grown_zero]
      exact ⟨hempty, hanchored, rfl, by simp [State.trackWritten]⟩
    · have hroom : s.engine.track.records.length < 128 := by simp [hempty]
      obtain rfl := hadmits.anchoring hanchored hmoved hroom
      have hadmitted := admitted_one hanchored
      have hpass : ∀ g ∈ s.admitted 1, s.passage true g = (g, false) := by
        rw [hadmitted]
        exact fun g hg => passage_at_odometer s true (by rw [List.mem_singleton.1 hg]) hlength
      have hrecords : (s.grownTrack 1).records = s.engine.track.records ++ s.admitted 1 := rfl
      rw [hempty, hadmitted] at hrecords
      rw [ranResult_unchanged hempty hpass]
      exact ⟨grownTrack_anchored (.inr Nat.one_pos), grownTrack_nextMark_one hanchored, rfl, hrecords, rfl⟩
  · obtain ⟨n, hexec, hadmits⟩ := trackStage_run hflight hstage hlatch hmark hnode hactivated
    have hlength : (s.admitted n).length = n := newSegments_length ..
    refine ⟨_, s.admitted n, s.retirements n, hexec, rfl, rfl, rfl, rfl, fun i g hg => ?_, ?_, fun hanchored => ?_,
      fun hanchored hmoved hroom => ?_, fun hanchored hnone => ?_, ?_, retireAll_good .., retireAll_waste ..,
      retireAll_reason _ _⟩
    · rw [newSegments_getElem? _ _ _ _ hg, ← classNow_eq]
      rfl
    · rw [hlength]
      rfl
    · obtain ⟨hfour, hall, hstop⟩ := hadmits.anchored hanchored
      rw [hlength]
      exact ⟨grownTrack_anchored (.inl hanchored), hfour, grownTrack_nextMark_anchored hanchored, hall,
        fun hn => grownTrack_not_due hanchored (hstop hn)⟩
    · obtain rfl := hadmits.anchoring hanchored hmoved hroom
      exact ⟨hlength, grownTrack_anchored (.inr Nat.one_pos), grownTrack_nextMark_one hanchored⟩
    · obtain rfl := hadmits.waiting hanchored hnone
      have htrack : s.grownTrack 0 = s.advancedTrack := grown_zero ..
      exact ⟨List.length_eq_zero_iff.1 hlength, (congrArg (·.anchored) htrack).trans hanchored,
        congrArg (·.nextMark) htrack⟩
    · rw [hlength]
      exact retireAll_admitted ..

end Sys2Proof.Machine
end

section
/-!
SUPPORT. Proofs about stage 6: the stand state, the trim and the integrator, the feed-forward and the valves, and what
the stage leaves of the rest.
-/
namespace Sys2Proof.Machine

/-! ### The stand state (R124, Table 8.2) -/

section
variable (i : ChillInputs)

theorem ChillInputs.stand_config (h : i.node = .config) : i.stand = .idle := if_pos h

section
variable (hnode : i.node ≠ .config)
include hnode

theorem ChillInputs.stand_purge (hpurge : i.dryer = .purge) : i.stand = .still := by
  rw [ChillInputs.stand, if_neg hnode, if_pos hpurge]

variable (hpurge : i.dryer ≠ .purge)
include hpurge

theorem ChillInputs.stand_slow (hslow : i.v < i.tables.comm.creep) :
    i.stand = if i.dryer.heated then .still else .idle := by
  rw [ChillInputs.stand, if_neg hnode, if_neg hpurge, if_pos hslow]

theorem ChillInputs.stand_moving (hmoves : i.tables.comm.creep ≤ i.v) : i.stand = .tracking := by
  rw [ChillInputs.stand, if_neg hnode, if_neg hpurge, if_neg hmoves.not_gt]

end

end

/-! ### The reading, the hold timer and the findings (R130, R132, R133) -/

section
variable {i : ChillInputs}

theorem ChillInputs.reading_valid {x : Int} (hmapped : i.exitMapped = true) (hexit : i.exit = .valid x) :
    i.reading = some x := by
  rw [ChillInputs.reading, hexit]
  exact if_pos hmapped

/-- There is no reading of a channel that is not mapped, nor of a silent one. -/
theorem ChillInputs.reading_none (h : i.exitMapped = false ∨ i.exit.isValid = false) : i.reading = none := by
  cases hexit : i.exit with
  | valid x =>
    have hunmapped : i.exitMapped = false := h.resolve_right (by simp [hexit, Sample.isValid])
    simp [ChillInputs.reading, hexit, hunmapped]
  | invalid | absent => simp [ChillInputs.reading, hexit]

variable (r : ChillRec)

theorem ChillRec.heldFor_valid {x : Int} (hexit : i.exit = .valid x) : r.heldFor i = 0 := by
  simp [ChillRec.heldFor, holdStep, hexit, Sample.isValid]

theorem ChillRec.heldFor_uncounted (h : i.exitMapped = false ∨ i.stand ≠ .tracking) : r.heldFor i = 0 := by
  rcases h with h | h <;> simp [ChillRec.heldFor, h]

theorem ChillRec.exitFaultFound_valid {x : Int} (hexit : i.exit = .valid x) : r.exitFaultFound i = false := by
  simp [ChillRec.exitFaultFound, hexit, Sample.isValid]

theorem ChillRec.exitFaultFound_uncounted (h : i.exitMapped = false ∨ i.stand ≠ .tracking) :
    r.exitFaultFound i = false := by
  rcases h with h | h <;> simp [ChillRec.exitFaultFound, h]

section
variable (hmapped : i.exitMapped = true) (hstand : i.stand = .tracking) (hsilent : i.exit.isValid = false)
include hmapped hstand hsilent

theorem ChillRec.heldFor_silent : r.heldFor i = min (r.hold + i.tables.comm.period) 8589934591 := by
  simp [ChillRec.heldFor, hmapped, hstand, holdStep_silent _ _ hsilent]

theorem ChillRec.exitFaultFound_silent :
    r.exitFaultFound i = true ↔ i.tables.comm.sensorHold < min (r.hold + i.tables.comm.period) 8589934591 := by
  rw [← r.heldFor_silent hmapped hstand hsilent]
  simp [ChillRec.exitFaultFound, hmapped, hstand, hsilent]

end

theorem ChillRec.supplyFound_valid {x : Int} (hsupply : i.supply = .valid x) :
    r.supplyFound i = decide ((i.tables.comm.chillSupplyMax : Int) < x) := by rw [ChillRec.supplyFound, hsupply]

theorem ChillRec.supplyFound_silent (hsupply : i.supply.isValid = false) : r.supplyFound i = r.supply := by
  cases hx : i.supply with
  | valid x => simp [hx, Sample.isValid] at hsupply
  | invalid | absent => rw [ChillRec.supplyFound, hx]

/-! ### The trim and the integrator (R131, R132) -/

theorem chillError_eq (rec : Recipe) (x : Int) :
    chillError rec x = max (-100000) (min ((x - rec.chillTarget) * 100) 100000) := clamp_eq _ (by decide)

theorem ChillRec.rawTrim_read {x : Int} (hreading : i.reading = some x) :
    r.rawTrim i =
      ((i.tables.comm.chillKp : Int) * chillError i.tables.recipe x).tdiv 1000 + r.integ.tdiv 10000 := by
  rw [ChillRec.rawTrim, hreading]
  rfl

theorem ChillRec.rawTrim_unread (hreading : i.reading = none) : r.rawTrim i = r.integ.tdiv 10000 := by
  rw [ChillRec.rawTrim, hreading]
  rfl

theorem ChillRec.trim_eq (i : ChillInputs) :
    r.trim i = max (-(i.tables.comm.trimLimit : Int)) (min (r.rawTrim i) i.tables.comm.trimLimit) :=
  clamp_eq _ (by omega)

/-- The integrator stands: the trim is beyond a limit, and the step `d` would carry it further (R131 item 4). -/
def ChillRec.guarded (r : ChillRec) (i : ChillInputs) (d : Int) : Prop :=
  ((i.tables.comm.trimLimit : Int) < r.rawTrim i ∧ 0 < d) ∨ (r.rawTrim i < -(i.tables.comm.trimLimit : Int) ∧ d < 0)

theorem ChillRec.integNext_idle (h : i.stand = .idle) : r.integNext i = 0 := by rw [ChillRec.integNext, h]

theorem ChillRec.integNext_still (h : i.stand = .still) : r.integNext i = r.integ := by rw [ChillRec.integNext, h]

section
variable (hstand : i.stand = .tracking)
include hstand

theorem ChillRec.integNext_unread (hreading : i.reading = none) : r.integNext i = r.integ := by
  rw [ChillRec.integNext, hstand, ChillRec.tracked, hreading]

theorem ChillRec.integNext_guarded {x : Int} (hreading : i.reading = some x)
    (h : r.guarded i (chillStep i.tables x)) : r.integNext i = r.integ := by
  rw [ChillRec.integNext, hstand, ChillRec.tracked, hreading]
  exact if_pos h

theorem ChillRec.integNext_moves {x : Int} (hreading : i.reading = some x)
    (h : ¬ r.guarded i (chillStep i.tables x)) :
    r.integNext i = max (-100000000) (min (r.integ + chillStep i.tables x) 100000000) := by
  rw [ChillRec.integNext, hstand, ChillRec.tracked, hreading, ← clamp_eq _ (by decide)]
  exact if_neg h

end

/-! ### The valves (R125 to R129) -/

theorem ChillRec.valve_idle (roll : Nat) (h : i.stand = .idle) : r.valve i roll = i.tables.comm.idleValve := by
  rw [ChillRec.valve, h]

theorem ChillRec.valve_still (roll : Nat) (h : i.stand = .still) : r.valve i roll = i.tables.comm.holdValve roll := by
  rw [ChillRec.valve, h]

theorem ChillRec.valve_tracking (roll : Nat) (h : i.stand = .tracking) (hmin : i.tables.comm.valveMin roll ≤ 10000) :
    r.valve i roll =
      max (i.tables.comm.valveMin roll : Int)
        (min (curveValue (i.tables.recipe.rollCurve roll) i.vs + i.feedForward roll + r.trim i) 10000) := by
  rw [ChillRec.valve, h, ← clamp_eq _ (by omega)]

end

/-- The span of a record, its length back from its position, holds the point (R128). -/
def Segment.spans (g : Segment) (odometer : BitVec 32) (length : Nat) (point : Int) : Prop :=
  (g.position odometer : Int) - length ≤ point ∧ point < (g.position odometer : Int)

theorem Segment.spans_iff (g : Segment) (odometer : BitVec 32) (length : Nat) (point : Int) :
    (decide ((g.position odometer : Int) - length ≤ point) && decide (point < (g.position odometer : Int))) = true ↔
      g.spans odometer length point := by
  rw [Bool.and_eq_true, decide_eq_true_iff, decide_eq_true_iff]
  rfl

section
variable {t : TrackRec} {length : Nat} {point : Int}

theorem recordAt_none (h : t.recordAt length point = none) :
    ∀ g ∈ t.records, ¬ g.spans t.odometer length point := fun g hg hspans =>
  List.find?_eq_none.1 h g hg ((g.spans_iff ..).2 hspans)

/-- The record found is the first whose span holds the point. -/
theorem recordAt_some {g : Segment} (h : t.recordAt length point = some g) :
    ∃ k : Nat, t.records[k]? = some g ∧ g.spans t.odometer length point
      ∧ ∀ (j : Nat) (e : Segment), j < k → t.records[j]? = some e → ¬ e.spans t.odometer length point := by
  obtain ⟨hspans, k, hk, hget, hbefore⟩ := List.find?_eq_some_iff_getElem.1 h
  refine ⟨k, List.getElem?_eq_some_iff.2 ⟨hk, hget⟩, (g.spans_iff ..).1 hspans, fun j e hj he hspanned => ?_⟩
  obtain ⟨_, rfl⟩ := List.getElem?_eq_some_iff.1 he
  have hnot := hbefore j hj
  rw [(Segment.spans_iff ..).2 hspanned] at hnot
  cases hnot

theorem ChillInputs.feedForward_none {i : ChillInputs} {roll : Nat}
    (h : i.track.recordAt i.tables.comm.segmentLength (i.lookPoint roll) = none) : i.feedForward roll = 0 := by
  rw [ChillInputs.feedForward, h]
  rfl

theorem ChillInputs.feedForward_some {i : ChillInputs} {roll : Nat} {g : Segment}
    (h : i.track.recordAt i.tables.comm.segmentLength (i.lookPoint roll) = some g) :
    (g.exitTemp = none → i.feedForward roll = 0)
      ∧ ∀ x, g.exitTemp = some x →
          i.feedForward roll = ((i.tables.recipe.feedGain : Int) * (x - i.tables.recipe.nominalExit)).tdiv 10 := by
  rw [ChillInputs.feedForward, h, Option.bind_some]
  refine ⟨fun hnone => ?_, fun x hx => ?_⟩
  · rw [hnone]
  · rw [hx]
    rfl

end

/-! ### The state after stage 6 (R123) -/

theorem exec_chillStage {s : State} {c : Computation} (hflight : s.engine.flight = some c) (hstage : c.stage = .chill) :
    exec .chillStage s = .next (takeChillStage c s) :=
  congrArg Host.Outcome.next (s.atStage_of c .chill _ hflight hstage)

/-- The row CHILL_SENSOR_HOLD_RUN_OUT is stage 6 where the exit fault is found (R130). -/
theorem exec_chillSensorHoldRunOut {s : State} {c : Computation} (hflight : s.engine.flight = some c)
    (hstage : c.stage = .chill) (hfault : s.engine.chill.exitFaultFound (s.chillInputs c) = true) :
    exec .chillSensorHoldRunOut s = .next (takeChillStage c s) :=
  congrArg Host.Outcome.next ((s.atStage_of c .chill _ hflight hstage).trans (if_pos hfault))

section
variable (s : State) (c : Computation)

theorem chillInputs_unmapped (h : s.svc.active.comm.cellOf 16 = none) : (s.chillInputs c).exitMapped = false :=
  congrArg Option.isSome h

theorem chillStaged_engine : (takeChillStage c s).engine = s.chillEngine c := State.latchIf_engine ..

theorem chillStaged_chill : (takeChillStage c s).engine.chill = s.engine.chill.step (s.chillInputs c) := by
  rw [chillStaged_engine]
  rfl

theorem chillStaged_svc :
    (takeChillStage c s).svc = { s.svc with latched := (takeChillStage c s).svc.latched } := latchIf_svc ..

/-- CHILL_FAULT is latched where stage 6 leaves a finding (R130, R133). -/
theorem chillStaged_hasFlag (fl : Flag) :
    hasFlag (takeChillStage c s).svc.latched fl = true ↔
      hasFlag s.svc.latched fl = true
        ∨ (fl = .chillFault ∧ ((takeChillStage c s).engine.chill.exitFault = true
            ∨ (takeChillStage c s).engine.chill.supply = true)) := by
  rw [chillStaged_chill, ← Bool.or_eq_true]
  exact latchIf_hasFlag ..

theorem chillStaged_changesOnly : ChangesOnly s (takeChillStage c s) [.engine, .svc, .pins] := by
  intro b hb; cases b <;> simp [Block.Same, takeChillStage] at hb ⊢

theorem chillStaged_valve {roll : Nat} (hroll : roll < 8) (hactive : s.svc.active.comm.rollActive roll = true) :
    (takeChillStage c s).engine.working.valve.getD roll 0 = s.engine.chill.valve (s.chillInputs c) roll := by
  have hset : (takeChillStage c s).engine.working.valve = s.chillValves c := by rw [chillStaged_engine]; rfl
  rw [hset, State.chillValves, tabulate_getD _ 0 hroll, if_pos hactive]

theorem feedForwardOf_feedForward (roll : Nat) : feedForwardOf s roll ((s.chillInputs c).feedForward roll) := by
  cases hrecord : (s.chillInputs c).track.recordAt (s.chillInputs c).tables.comm.segmentLength
    ((s.chillInputs c).lookPoint roll) with
  | none => exact .inr ⟨recordAt_none hrecord, ChillInputs.feedForward_none hrecord⟩
  | some g =>
    obtain ⟨k, hget, hspans, hfirst⟩ := recordAt_some hrecord
    obtain ⟨hcold, hread⟩ := ChillInputs.feedForward_some hrecord
    exact .inl ⟨k, g, hget, hspans, hfirst, hcold, hread⟩

/-- In TRACKING the valves are set with the trim of the record. -/
theorem chillStaged_valvesSet (hstand : (s.chillInputs c).stand = .tracking) :
    valvesSet s (takeChillStage c s) (s.engine.chill.trim (s.chillInputs c)) := fun roll hroll hactive hmin =>
  ⟨_, feedForwardOf_feedForward s c roll,
    (chillStaged_valve s c hroll hactive).trans (s.engine.chill.valve_tracking roll hstand hmin)⟩

end

/-! ### The obligations of stage 6 -/

/-- Settles O34: `ChillInputs.stand` is a chain of tests in the order of Table 8.2, and the valves and I_c follow it. -/
theorem chillStandSelectsItsState : Obligations.ChillStandSelectsItsState := by
  intro s c hflight hstage
  refine ⟨_, exec_chillStage hflight hstage, ?_⟩
  rw [chillStaged_chill]
  refine ⟨(s.chillInputs c).stand_config, (s.chillInputs c).stand_purge, (s.chillInputs c).stand_slow,
    (s.chillInputs c).stand_moving, fun hidle => ⟨ChillRec.integNext_idle _ hidle, fun r hr hactive => ?_⟩,
    fun hstill => ⟨ChillRec.integNext_still _ hstill, fun r hr hactive => ?_⟩, ?_, chillStaged_changesOnly s c⟩
  · exact (chillStaged_valve s c hr hactive).trans (ChillRec.valve_idle _ r hidle)
  · exact (chillStaged_valve s c hr hactive).trans (ChillRec.valve_still _ r hstill)
  · rw [chillStaged_engine]
    rfl

/-- Settles O35: by the reading that the trim is formed from, and then the findings at any stand state. -/
theorem chillTrimFollowsTheReading : Obligations.ChillTrimFollowsTheReading := by
  refine ⟨fun s c x hflight hstage hnode hpurge hmoves hmapped hvalid => ⟨_, exec_chillStage hflight hstage, ?_⟩,
    fun s c hflight hstage hnode hpurge hmoves hunread => ⟨_, exec_chillStage hflight hstage, ?_⟩,
    fun s c hflight hstage => ⟨_, exec_chillStage hflight hstage, ?_⟩⟩
  · have hstand : (s.chillInputs c).stand = .tracking := (s.chillInputs c).stand_moving hnode hpurge hmoves
    have hexit : (s.chillInputs c).exit = .valid x := hvalid
    have hreading : (s.chillInputs c).reading = some x := ChillInputs.reading_valid hmapped hexit
    have hraw := s.engine.chill.rawTrim_read hreading
    have hvalves := chillStaged_valvesSet s c hstand
    have hguarded := s.engine.chill.integNext_guarded hstand hreading
    have hmoved := s.engine.chill.integNext_moves hstand hreading
    rw [ChillRec.trim_eq, hraw, chillError_eq] at hvalves
    rw [ChillRec.guarded, hraw, chillStep, chillError_eq] at hguarded hmoved
    rw [chillStaged_chill]
    exact ⟨ChillRec.heldFor_valid _ hexit, ChillRec.exitFaultFound_valid _ hexit, hguarded, hmoved, hvalves⟩
  · have hstand : (s.chillInputs c).stand = .tracking := (s.chillInputs c).stand_moving hnode hpurge hmoves
    have hreading : (s.chillInputs c).reading = none :=
      ChillInputs.reading_none (hunread.imp (chillInputs_unmapped s c) (Sample.isValid_eq_false_iff _).2)
    have hvalves := chillStaged_valvesSet s c hstand
    rw [ChillRec.trim_eq, ChillRec.rawTrim_unread _ hreading] at hvalves
    rw [chillStaged_chill]
    refine ⟨ChillRec.integNext_unread _ hstand hreading, hvalves, fun hnone => ?_, fun hmapped => ?_⟩
    · have hunmapped := chillInputs_unmapped s c hnone
      exact ⟨ChillRec.heldFor_uncounted _ (.inl hunmapped), ChillRec.exitFaultFound_uncounted _ (.inl hunmapped)⟩
    · have hcounted : (s.chillInputs c).exitMapped = true := hmapped
      have hsilent : (s.chillInputs c).exit.isValid = false := (Sample.isValid_eq_false_iff _).2
        (hunread.resolve_left (Option.isSome_iff_ne_none.1 hmapped))
      have hfound := s.engine.chill.exitFaultFound_silent hcounted hstand hsilent
      refine ⟨ChillRec.heldFor_silent _ hcounted hstand hsilent, hfound, fun hout => ?_⟩
      have hfault := hfound.2 hout
      refine ⟨(chillStaged_hasFlag s c _).2 (.inr ⟨rfl, .inl ?_⟩), exec_chillSensorHoldRunOut hflight hstage hfault⟩
      rw [chillStaged_chill]
      exact hfault
  · refine ⟨fun x hx => ?_, fun hsilent => ?_, fun hstand => ?_, chillStaged_hasFlag s c, chillStaged_svc s c⟩
    · rw [chillStaged_chill, ChillRec.step, ChillRec.supplyFound_valid _ hx]
      exact decide_eq_true_iff
    · rw [chillStaged_chill]
      exact ChillRec.supplyFound_silent _ ((Sample.isValid_eq_false_iff _).2 hsilent)
    · rw [chillStaged_chill] at hstand ⊢
      exact ⟨ChillRec.heldFor_uncounted _ (.inr hstand), ChillRec.exitFaultFound_uncounted _ (.inr hstand)⟩

end Sys2Proof.Machine
end

section
/-!
SUPPORT. Proofs about the verdicts: GATE of the retirements, what each command makes of the engine, and the balance of
the track counters.
-/
namespace Sys2Proof.Machine

/-! ### GATE of a list of retirements (R140, R141) -/

section
variable (gate : Gate)

theorem Gate.next_nil : gate.next [] = { gate with count := 0 } := rfl

variable {gs : List Segment}

theorem any_isWaste_iff : gs.any (·.isWaste) = true ↔ ∃ g ∈ gs, g.reasons ≠ [] := by
  simp [isWaste_eq]

theorem Gate.next_waste (hany : ∃ g ∈ gs, g.reasons ≠ []) :
    gate.next gs = ⟨.waste, min gs.length 7, lastWasteReason gs⟩ := by
  have hsome : gs ≠ [] := hany.elim fun _ hg => List.ne_nil_of_mem hg.1
  rw [Gate.next, if_neg (by simp [hsome]), if_pos (any_isWaste_iff.2 hany)]

theorem Gate.next_good (hsome : gs ≠ []) (hall : ∀ g ∈ gs, g.reasons = []) :
    gate.next gs = ⟨.good, min gs.length 7, none⟩ := by
  have hnone : ¬ gs.any (·.isWaste) = true := fun hany =>
    have ⟨g, hg, hwaste⟩ := any_isWaste_iff.1 hany
    hwaste (hall g hg)
  rw [Gate.next, if_neg (by simp [hsome]), if_neg hnone]

theorem Gate.next_count (hsome : gs ≠ []) : (gate.next gs).count = min gs.length 7 := by
  by_cases hall : ∀ g ∈ gs, g.reasons = []
  · rw [gate.next_good hsome hall]
  · rw [gate.next_waste (by simpa using hall)]

end

/-- Of the WASTE segments the last in the list gives the reason. -/
theorem lastWasteReason_append {before after : List Segment} {g : Segment} (hg : g.reasons ≠ [])
    (hafter : ∀ g' ∈ after, g'.reasons = []) : lastWasteReason (before ++ g :: after) = g.reasons.head? := by
  have hrest : after.filter (·.isWaste) = [] := List.filter_eq_nil_iff.2 fun g' hg' => by
    simp [isWaste_eq, hafter g' hg']
  have hlast : ((before ++ g :: after).filter (·.isWaste)).getLast? = some g := by
    rw [List.filter_append, List.filter_cons_of_pos (by simpa [isWaste_eq] using hg), hrest, List.getLast?_concat]
  rw [lastWasteReason, hlast]

/-- Settles O37: stage 7 forms GATE from the retirements, which are none, all GOOD, or with a last WASTE one. -/
theorem gateReportsTheRetirements : Obligations.GateReportsTheRetirements := by
  intro s c hflight hstage
  have hgate : (takePublication c s).port.readSide.gate = s.engine.working.gate.next c.retired := rfl
  refine ⟨takePublication c s, by rw [exec_publication, s.atStage_of c .report _ hflight hstage], ?_⟩
  rw [hgate]
  refine ⟨fun hnone => ?_, Gate.next_count _, fun hsome hall => ?_, fun before g after r rest hlist hr hafter => ?_⟩
  · rw [hnone, Gate.next_nil]
  · rw [Gate.next_good _ hsome hall]
    exact ⟨rfl, rfl⟩
  · have hg : g.reasons ≠ [] := by simp [hr]
    rw [hlist, Gate.next_waste _ ⟨g, by simp, hg⟩, lastWasteReason_append hg hafter, hr]
    exact ⟨rfl, rfl⟩

/-! ### What a command makes of the engine -/

/-- The engine of a computation begun: a pending clear is carried out, and the samples are taken (R7, R145). -/
def State.begunEngine (s : State) (samples : SampleSet) (c : Computation) : Engine :=
  { s.engine with
    counters := if s.svc.clearPending then .cleared s.engine.track.records.length else s.engine.counters
    samples := samples
    flight := some c }

/-- All that one command can make of the engine: it stands, is reset, begins a computation, or takes the next stage of
the computation in flight. -/
inductive EngineMove (s : State) (e : Engine) : Prop
  | kept (h : e = s.engine)
  | reset (h : e = .reset)
  | begun (samples : SampleSet) (c : Computation) (h : e = s.begunEngine samples c)
  | speedStage (c : Computation) (hflight : s.engine.flight = some c) (hstage : c.stage = .speed)
      (h : e = (takeSpeedStage c s).engine)
  | dryerStep (c : Computation) (hflight : s.engine.flight = some c) (hstage : c.stage = .dryer) (permit : Bool)
      (h : e = { s.engine with
        dryer := s.dryerAfter permit
        flight := some { c with stage := .zones, node := s.svc.node, permit := permit } })
  | zoneStage (c : Computation) (hflight : s.engine.flight = some c) (hstage : c.stage = .zones)
      (h : e = s.zoneEngine c)
  | exhaustStage (c : Computation) (hflight : s.engine.flight = some c) (hstage : c.stage = .exhaust)
      (h : e = s.exhaustEngine c)
  | trackStage (c : Computation) (hflight : s.engine.flight = some c) (hstage : c.stage = .track)
      (h : e = (takeTrackStage c s).engine)
  | chillStage (c : Computation) (hflight : s.engine.flight = some c) (hstage : c.stage = .chill)
      (h : e = s.chillEngine c)
  | publication (c : Computation) (hflight : s.engine.flight = some c) (hstage : c.stage = .report)
      (h : e = (takePublication c s).engine)

/-! #### Frames -/

section
variable (s : State) (time : Nat)

theorem begunEngine_advanceTo (samples : SampleSet) (c : Computation) :
    (s.advanceTo time).begunEngine samples c = s.begunEngine samples c := by
  simp [State.begunEngine]

/-- A flag latched before a capture leaves the engine that the capture begins. -/
theorem latched_capture_engine (irr late : Bool) (number : BitVec 32) (cells : List Cell) :
    ∃ samples c, ((s.latchIf irr .cycleIrregular).capture late number cells time).engine = s.begunEngine samples c := by
  rw [capture_engine, applyPending_engine, State.latchIf_engine, State.latchIf_svc_clearPending]
  exact ⟨_, _, rfl⟩

/-- An arrival leaves the engine, or begins a computation. -/
theorem arrival_engine (number : BitVec 32) (cells : List Cell) :
    (s.arrival number cells time).engine = s.engine
      ∨ ∃ samples c, (s.arrival number cells time).engine = s.begunEngine samples c := by
  cases hv : s.sup.verdict s.svc.active.comm s.engine.flight.isSome number time with
  | anchoring => rw [State.arrival, hv]; exact .inr (latched_capture_engine ..)
  | capture => rw [State.arrival, hv]; exact .inr (latched_capture_engine ..)
  | early => rw [arrival_early hv]; exact .inl rfl
  | duplicate => rw [arrival_duplicate hv]; exact .inl rfl
  | overrun => rw [arrival_overrun hv]; exact .inl rfl

/-- A frame received leaves the engine, but for the CYCLE frame that begins a computation. -/
theorem receive_engine (frame : EthFrame) :
    (s.receive frame time).engine = s.engine
      ∨ ∃ samples c, (s.receive frame time).engine = s.begunEngine samples c := by
  unfold State.receive
  split_ifs
  · exact .inl (State.forward_engine ..)
  · exact .inl (State.forward_engine ..)
  · split
    · exact .inl (State.forward_engine ..)
    · next f _ =>
      cases hkind : f.kind with
      | cycle =>
        obtain ⟨-, -, hengine, -⟩ := process_cycle_keeps s f time hkind
        rw [hengine]
        exact arrival_engine s time f.number f.cells
      | service =>
        obtain ⟨hkeeps, -⟩ := serviceKeeps_serveLane f.records s
        rw [process_service s f time hkind, State.forward_engine]
        exact .inl (hkeeps .engine (by decide))

theorem frameArrival_engine (port : Port) (frame : EthFrame) :
    ∃ t, exec (.frameArrival port time frame) s = .next t ∧ EngineMove s t.engine := by
  refine ⟨_, rfl, ?_⟩
  cases port with
  | ringOut => exact .kept (s.advanceTo_engine time)
  | ringIn =>
    dsimp only
    split_ifs
    · exact .kept rfl
    · exact .kept (State.forward_engine ..)
    · rcases receive_engine (s.advanceTo time) time frame with hkept | ⟨samples, c, hbegun⟩
      · exact .kept (hkept.trans (s.advanceTo_engine time))
      · exact .begun samples c (hbegun.trans (begunEngine_advanceTo s time samples c))

end

/-! #### Requests, links, break lines and expiries -/

section
variable (s : State)

theorem request_engine (k : RequestKind) (r : Request) : (s.request (serve k r s)).engine = s.engine := by
  unfold State.request
  split
  · rfl
  · exact (serviceKeeps_serve k r s).1 .engine (by decide)

theorem takeLevel_engine (line : Fin 4) : (s.takeLevel line).engine = s.engine := by
  by_cases huntaken : s.untaken line
  · exact (linesActed_takeLevel s line huntaken).frame .engine (by decide)
  · rw [State.takeLevel, if_pos (not_not.1 huntaken)]

theorem lineChanged_engine (line : Fin 4) (high : Bool) (time : Nat) :
    (s.lineChanged line high time).engine = s.engine := by
  have hchanged : ((s.advanceTo time).changeLevel line high).engine = s.engine := s.advanceTo_engine time
  unfold State.lineChanged
  split_ifs
  · rfl
  · rfl
  · dsimp only
    split
    exacts [(takeLevel_engine _ line).trans hchanged, hchanged]

theorem endStore_engine (image : Commissioning) (written : Bool) : (s.endStore image written).engine = s.engine := by
  cases written <;> rfl

variable {s}

/-- What a command does only under a condition moves the engine as it would without one, or leaves it. -/
theorem EngineMove.ite {p : Prop} [Decidable p] {t : State} (h : EngineMove s t.engine) :
    EngineMove s (if p then t else s).engine := by
  split
  exacts [h, .kept rfl]

/-- A stage moves the engine where it is the next one of the computation in flight. -/
theorem EngineMove.atStage {stage : Stage} {f : Computation → State}
    (h : ∀ c, s.engine.flight = some c → c.stage = stage → EngineMove s (f c).engine) :
    EngineMove s (s.atStage stage f).engine := by
  rcases s.atStage_spec stage f with heq | ⟨c, hflight, hstage, heq⟩ <;> rw [heq]
  exacts [.kept rfl, h c hflight hstage]

theorem EngineMove.dryerStepOf (row : Transition) (permit : Bool) (time : Nat) :
    EngineMove s (dryerStepOf row permit time s).engine :=
  .atStage fun c hflight hstage => .ite (.dryerStep c hflight hstage permit (dryerStepped_engine s c time permit))

end

/-! #### Every command -/

/-- The one case split over the commands: what each makes of the engine. -/
theorem exec_engineMove (i : Instr) (s : State) : ∃ t, exec i s = .next t ∧ EngineMove s t.engine := by
  cases i with
  | powerOn => exact ⟨_, rfl, .reset rfl⟩
  | localReset cut => exact ⟨_, rfl, .reset rfl⟩
  | localResetRelease =>
    refine ⟨_, rfl, ?_⟩
    split <;> exact .kept rfl
  | lineResetTakesEffect => exact ⟨_, rfl, .ite (.reset rfl)⟩
  | loadEnd => exact ⟨_, rfl, .ite (.kept (takeLoadEnd_engine s))⟩
  | portLinkUp port => exact ⟨_, rfl, .kept rfl⟩
  | portLinkDown port cut => exact ⟨_, rfl, .kept (cutFrame_changesOnly s port cut .engine (by decide))⟩
  | frameArrival port time frame => exact frameArrival_engine s time port frame
  | warnExpiry time => exact ⟨_, exec_warnExpiry time s, .ite (.kept (s.advanceTo_engine time))⟩
  | lossExpiry time =>
    exact ⟨_, exec_lossExpiry time s, .ite (.kept ((State.tripArrives_engine ..).trans (s.advanceTo_engine time)))⟩
  | purgeExpiry time => exact ⟨_, exec_purgeExpiry time s, .ite (.kept (s.advanceTo_engine time))⟩
  | speedStage => exact ⟨_, rfl, .atStage fun c hflight hstage => .speedStage c hflight hstage rfl⟩
  | speedHoldRunOut =>
    exact ⟨_, rfl, .atStage fun c hflight hstage => .ite (.speedStage c hflight hstage rfl)⟩
  | dryerStep time permit =>
    exact ⟨_, rfl, .atStage fun c hflight hstage =>
      .dryerStep c hflight hstage permit (dryerStepped_engine s c time permit)⟩
  | permitTimerReached time => exact ⟨_, rfl, .dryerStepOf _ _ time⟩
  | settleTimerReached time => exact ⟨_, rfl, .dryerStepOf _ _ time⟩
  | runConfirmReached time => exact ⟨_, rfl, .dryerStepOf _ _ time⟩
  | holdDelayReached time => exact ⟨_, rfl, .dryerStepOf _ _ time⟩
  | holdLimitReached time => exact ⟨_, rfl, .dryerStepOf _ _ time⟩
  | zoneStage time =>
    exact ⟨_, rfl, .atStage fun c hflight hstage => .zoneStage c hflight hstage (zoneStaged_engine s c time)⟩
  | zoneSensorHoldRunOut zone time =>
    exact ⟨_, rfl, .atStage fun c hflight hstage => .ite (.zoneStage c hflight hstage (zoneStaged_engine s c time))⟩
  | exhaustStage time =>
    exact ⟨_, rfl, .atStage fun c hflight hstage => .exhaustStage c hflight hstage (exhaustStaged_engine s c time)⟩
  | lelHoldRunOut time =>
    exact ⟨_, rfl, .atStage fun c hflight hstage =>
      .ite (.exhaustStage c hflight hstage (exhaustStaged_engine s c time))⟩
  | trackStage => exact ⟨_, rfl, .atStage fun c hflight hstage => .trackStage c hflight hstage rfl⟩
  | chillStage =>
    exact ⟨_, rfl, .atStage fun c hflight hstage => .chillStage c hflight hstage (chillStaged_engine s c)⟩
  | chillSensorHoldRunOut =>
    exact ⟨_, rfl, .atStage fun c hflight hstage => .ite (.chillStage c hflight hstage (chillStaged_engine s c))⟩
  | publication => exact ⟨_, rfl, .atStage fun c hflight hstage => .publication c hflight hstage rfl⟩
  | breakLineLevelChange line high time => exact ⟨_, rfl, .kept (lineChanged_engine s line high time)⟩
  | breakLineLevelTaken line time =>
    refine ⟨_, rfl, ?_⟩
    split
    · exact .kept rfl
    · exact .ite (.kept ((takeLevel_engine _ line).trans (s.advanceTo_engine time)))
  | storeCompletion written =>
    refine ⟨_, rfl, ?_⟩
    split
    exacts [.kept rfl, .kept (endStore_engine s _ written)]
  | read r => exact ⟨_, rfl, .kept (request_engine s .read r)⟩
  | write r => exact ⟨_, rfl, .kept (request_engine s .write r)⟩
  | commit r => exact ⟨_, rfl, .kept (request_engine s .commit r)⟩
  | discard r => exact ⟨_, rfl, .kept (request_engine s .discard r)⟩
  | enterConfig r => exact ⟨_, rfl, .kept (request_engine s .enterConfig r)⟩
  | leaveConfig r => exact ⟨_, rfl, .kept (request_engine s .leaveConfig r)⟩
  | store r => exact ⟨_, rfl, .kept (request_engine s .store r)⟩
  | clearLatched r => exact ⟨_, rfl, .kept (request_engine s .clearLatched r)⟩
  | clearCauses r => exact ⟨_, rfl, .kept (request_engine s .clearCauses r)⟩
  | clearCounters r => exact ⟨_, rfl, .kept (request_engine s .clearCounters r)⟩
  | tripReset r => exact ⟨_, rfl, .kept (request_engine s .tripReset r)⟩
  | testTrip r time =>
    exact ⟨_, rfl, .kept ((request_engine _ .testTrip r).trans (s.advanceTo_engine time))⟩
  | lineReset r => exact ⟨_, rfl, .kept (request_engine s .lineReset r)⟩

/-- A step idles on an empty queue, and otherwise moves the engine as the command at its front does. -/
theorem step_engineMove {s t : State} (hstep : step s = .next t) :
    t = s ∨ ∃ rest, EngineMove { s with pending := rest } t.engine := by
  rw [step] at hstep
  split at hstep
  · exact .inl (Host.Outcome.next.inj hstep).symm
  · next i rest _ =>
    obtain ⟨u, hexec, hmove⟩ := exec_engineMove i { s with pending := rest }
    obtain rfl := Host.Outcome.next.inj (hexec.symm.trans hstep)
    exact .inr ⟨rest, hmove⟩

/-! ### The balance of the track counters (R144) -/

section
variable {k : TrackCounters}

theorem cleared_balanced (occupancy : Nat) : (TrackCounters.cleared occupancy).Balanced occupancy :=
  (BitVec.zero_add _).symm

/-- What joins the track is admitted. -/
theorem TrackCounters.Balanced.withAdmitted {occupancy : Nat} (h : k.Balanced occupancy) (n : Nat) :
    { k with admitted := k.admitted + BitVec.ofNat 32 n }.Balanced (occupancy + n) := by
  unfold TrackCounters.Balanced at *
  rw [h, BitVec.ofNat_add, BitVec.add_assoc]

/-- What leaves the track is GOOD or WASTE. -/
theorem TrackCounters.Balanced.retire {occupancy : Nat} (h : k.Balanced (occupancy + 1)) (g : Segment) :
    (k.retire g).Balanced occupancy := by
  unfold TrackCounters.Balanced at *
  rw [retire_admitted, retire_good, retire_waste, h]
  by_cases hgood : g.reasons = []
  · simp [hgood, bit, BitVec.ofNat_add]
    ac_rfl
  · simp [hgood, bit, BitVec.ofNat_add]
    ac_rfl

theorem TrackCounters.Balanced.retireAll {gs : List Segment} {occupancy : Nat}
    (h : k.Balanced (occupancy + gs.length)) : (k.retireAll gs).Balanced occupancy := by
  induction gs generalizing k with
  | nil => exact h
  | cons g rest ih => exact ih (TrackCounters.Balanced.retire h g)

end

/-- Stage 5 keeps the balance: a flush retires every record; otherwise each passage ends in a record that stays or in a
retirement. -/
theorem trackResult_balanced {s : State} (c : Computation)
    (h : s.engine.counters.Balanced s.engine.track.records.length) :
    (s.trackResult c).counters.Balanced (s.trackResult c).track.records.length := by
  by_cases hflush : s.tripFlush = true ∨ c.configFlush = true
  · rw [trackResult_flush hflush]
    refine TrackCounters.Balanced.retireAll ?_
    simpa [State.flushResult, TrackRec.emptied, State.advancedTrack, TrackRec.advanced] using h
  · rw [not_or, Bool.not_eq_true, Bool.not_eq_true] at hflush
    obtain ⟨n, hresult, -⟩ := runResult_eq s
    rw [trackResult_run hflush.1 hflush.2, hresult]
    have hpassages : (s.passages n).length = s.engine.track.records.length + n := by
      simp [State.passages, State.admitted, newSegments_length]
    have hparts : (s.ranResult n).track.records.length + (s.retirements n).length = (s.passages n).length := by
      rw [Nat.add_comm]
      simp [State.ranResult, State.retirements, ← List.length_eq_length_filter_add]
    refine TrackCounters.Balanced.retireAll ?_
    rw [hparts, hpassages]
    exact h.withAdmitted n

theorem EngineMove.countersBalanced {s t : State} (hmove : EngineMove s t.engine) (h : s.CountersBalanced) :
    t.CountersBalanced := by
  obtain ⟨hnow, hview⟩ := h
  unfold State.CountersBalanced
  cases hmove with
  | kept ht => rw [ht]; exact ⟨hnow, hview⟩
  | reset ht => rw [ht]; exact ⟨rfl, rfl⟩
  | begun samples c ht =>
    rw [ht]
    refine ⟨?_, hview⟩
    dsimp only [State.begunEngine]
    split
    exacts [cleared_balanced _, hnow]
  | trackStage c _ _ ht => rw [ht]; exact ⟨trackResult_balanced c hnow, hview⟩
  | publication c _ _ ht => rw [ht]; exact ⟨hnow, hnow⟩
  | speedStage c _ _ ht => rw [ht, takeSpeedStage_engine]; exact ⟨hnow, hview⟩
  | dryerStep c _ _ permit ht => rw [ht]; exact ⟨hnow, hview⟩
  | zoneStage c _ _ ht | exhaustStage c _ _ ht | chillStage c _ _ ht => rw [ht]; exact ⟨hnow, hview⟩

/-- Settles O54: admission, retirement and a clear keep the balance, and the publication copies it into the view. -/
theorem countersStayBalanced : Obligations.CountersStayBalanced := by
  refine ⟨⟨rfl, rfl⟩, fun s t h hstep => ?_⟩
  rcases step_engineMove hstep with rfl | ⟨rest, hmove⟩
  exacts [h, hmove.countersBalanced h]

end Sys2Proof.Machine
end

section
/-!
SUPPORT. Proofs about trips, break lines and the purge: the trip's arrival, the purge timer, the take of a level, and
the requests that reset or test the trip.
-/
namespace Sys2Proof.Machine

/-! ### A trip arrives (R147, R148) -/

theorem causeNumber_eq_bit (c : Cause) : causeNumber c = c.bit := by
  cases c with
  | breakLine k => revert k; decide
  | breakCell | lel | overtemp | link | test | restart => rfl

theorem Cause.mask_eq (c : Cause) : c.mask = BitVec.ofNat 10 (2 ^ causeNumber c) := by
  rw [causeNumber_eq_bit, Cause.mask]

theorem tripArrives_changesOnly (c : Cause) (s : State) : ChangesOnly s (s.tripArrives c) [.trip, .svc, .pins] := by
  intro b hb; cases b <;> simp [Block.Same] at hb ⊢

theorem fireValue_of_latch {s : State} (h : s.trip.latch = true) (z : Nat) : s.fireValue z = 0 := if_pos h

/-- Settles O38: the record of R147, the flag, the lines, and FIRE at a set latch. -/
theorem tripSetsTheLatch : Obligations.TripSetsTheLatch := by
  intro s c hclear
  refine ⟨?_, s.tripArrives_svc c, ?_, fireValue_of_latch (s.tripArrives_latch c), tripArrives_changesOnly c s⟩
  · rw [s.tripArrives_clear c hclear, TripUnit.latched, c.mask_eq]
  · rw [s.tripArrives_clear c hclear]

/-- Once the latch is set, a further trip adds its cause and starts the purge anew. -/
theorem tripArrives_twice (s : State) (a b : Cause) (hclear : s.trip.latch = false) :
    (s.tripArrives a).tripArrives b = { s.tripArrives a with
      trip := { (s.tripArrives a).trip with causes := a.mask ||| b.mask } } := by
  rw [(s.tripArrives a).tripArrives_set b (s.tripArrives_latch a), s.tripArrives_clear a hclear]
  simp [TripUnit.retriggered, TripUnit.latched, BitVec.or_assoc]

/-- Settles O39: at a set latch R148's record, and from a clear one the same set of causes in either order. -/
theorem tripRetriggersThePurge : Obligations.TripRetriggersThePurge := by
  refine ⟨fun s c hset => ⟨?_, s.tripArrives_svc c, ?_, tripArrives_changesOnly c s⟩, fun s a b hclear => ?_⟩
  · rw [s.tripArrives_set c hset, TripUnit.retriggered, c.mask_eq]
  · rw [s.tripArrives_set c hset]
  · rw [tripArrives_twice s a b hclear, tripArrives_twice s b a hclear, s.tripArrives_clear a hclear,
      s.tripArrives_clear b hclear, BitVec.or_comm b.mask]
    rfl

/-! ### The purge runs out (R149) -/

/-- Settles O40: a purge timer whose whole time passes is due, and one that is stopped or has time left is not. -/
theorem purgeExpiryEndsThePurge : Obligations.PurgeExpiryEndsThePurge := by
  refine ⟨fun s time p hrun hp hdue => ?_, fun s time hleft => ?_⟩
  · have hexpires : timerDue (s.advanceTo time).trip.purgeTimer = true := by
      rw [s.advanceTo_running time hrun]; exact timerDue_elapsed hp hdue
    refine ⟨_, by rw [exec_purgeExpiry, if_pos hexpires], rfl, fun b hb => ?_⟩
    cases b <;> simp [Block.Same] at hb ⊢
  · rw [exec_purgeExpiry, if_neg]
    rcases s.advanceTo_spec time with hs | hs <;> rw [hs]
    exacts [(not_timerDue_left hleft).1, (not_timerDue_left hleft).2]

/-! ### A level is taken (R151 to R153, Table 10.3) -/

/-- A qualifying change that trips (R153). -/
theorem takeLevel_trips {s : State} {k : Fin 4} (huntaken : s.untaken k) (hqualifies : s.qualifiesNow k = true)
    (haction : s.svc.active.comm.lineAction k.val = .trip) :
    s.takeLevel k = ({ s with trip := s.trip.take k.val (s.pins.line k.val) } : State).tripArrives (.breakLine k) := by
  rw [takeLevel_of_untaken s k huntaken, if_pos hqualifies, State.lineAct, haction]

/-- A qualifying change that latches NOTICE (R153). -/
theorem takeLevel_notices {s : State} {k : Fin 4} (huntaken : s.untaken k) (hqualifies : s.qualifiesNow k = true)
    (haction : s.svc.active.comm.lineAction k.val = .notice) :
    s.takeLevel k = ({ s with trip := s.trip.take k.val (s.pins.line k.val) } : State).latchFlag .notice := by
  rw [takeLevel_of_untaken s k huntaken, if_pos hqualifies, State.lineAct, haction]

/-- A change that does not qualify is only taken (R152). -/
theorem takeLevel_quiet {s : State} {k : Fin 4} (huntaken : s.untaken k) (hquiet : ¬ s.qualifiesNow k = true) :
    s.takeLevel k = { s with trip := s.trip.take k.val (s.pins.line k.val) } := by
  rw [takeLevel_of_untaken s k huntaken, if_neg hquiet]

theorem takeLevel_taken {s : State} {k : Fin 4} (htaken : ¬ s.untaken k) : s.takeLevel k = s := by
  rw [State.takeLevel, if_pos (not_not.1 htaken)]

theorem takeLevel_changesOnly (s : State) (k : Fin 4) : ChangesOnly s (s.takeLevel k) [.trip, .svc, .pins] := by
  have htake : ChangesOnly s { s with trip := s.trip.take k.val (s.pins.line k.val) } [.trip, .svc, .pins] := by
    intro b hb; cases b <;> simp [Block.Same] at hb ⊢
  by_cases huntaken : s.untaken k
  · rw [takeLevel_of_untaken s k huntaken]
    split
    · refine htake.trans ?_
      unfold State.lineAct
      split
      · exact tripArrives_changesOnly _ _
      · intro b hb; cases b <;> simp [Block.Same] at hb ⊢
    · exact htake
  · rw [takeLevel_taken huntaken]
    exact .refl s _

/-- What `takeLevel` does is the take of the level at the terminals, judged by Table 10.3. -/
theorem levelTaken_takeLevel (s : State) (k : Fin 4) (hlen : s.trip.filters.length = 4) :
    levelTaken s (s.takeLevel k) k (s.pins.line k.val) := by
  have hqualifies : s.qualifiesNow k = true ↔
      lineQualifies (s.svc.active.comm.lineMode k.val) (s.trip.filter k.val).taken (s.pins.line k.val) :=
    LineMode.qualifies_iff ..
  refine ⟨fun htaken => takeLevel_taken (not_not.2 htaken), fun huntaken => ?_, takeLevel_changesOnly s k⟩
  have hself := takeLevel_filter_self s k huntaken hlen
  refine ⟨by rw [hself], by rw [hself], fun j hj hne => ?_, fun hq haction => ?_, fun hq haction => ?_, fun hq => ?_⟩
  · exact takeLevel_filter_ne s k ⟨j, hj⟩ huntaken fun h => hne (congrArg Fin.val h).symm
  · rw [takeLevel_trips huntaken (hqualifies.2 hq) haction, tripArrives_firstCause, tripArrives_causes]
    have hmask : (Cause.breakLine k).mask.getLsbD k.val = true := (breakLine_mask_getLsbD k k.val).2 rfl
    refine ⟨State.tripArrives_latch .., ?_, rfl, State.tripArrives_purgeTimer .., State.tripArrives_purgeDone ..,
      State.tripArrives_svc ..⟩
    split <;> simp [hmask]
  · rw [takeLevel_notices huntaken (hqualifies.2 hq) haction]
    exact ⟨rfl, rfl⟩
  · rw [takeLevel_quiet huntaken (hqualifies.not.2 hq)]
    exact ⟨rfl, rfl, rfl⟩

/-! ### A level changes (R151) -/

theorem advanceTo_filters_length (s : State) (time : Nat) :
    (s.advanceTo time).trip.filters.length = s.trip.filters.length := by
  rcases s.advanceTo_spec time with h | h <;> rw [h]
  exact List.length_map _

/-- The stability timers run on while the part runs (R151). -/
theorem advanceTo_stable {s : State} {k : Nat} (time : Nat) (hrun : s.svc.node ≠ .loading)
    (hk : k < s.trip.filters.length) :
    ((s.advanceTo time).trip.filter k).stable = (s.trip.filter k).stable + (time - s.localTime) := by
  rw [s.advanceTo_running time hrun]
  simp [TripUnit.elapse, TripUnit.filter, hk]

/-- When the level at the terminals has been stable for the filter time (R151). -/
theorem advanceTo_lineStable_iff {s : State} (k : Fin 4) (time : Nat) (hrun : s.svc.node ≠ .loading)
    (hlen : s.trip.filters.length = 4) :
    (s.advanceTo time).lineStable k = true ↔
      s.svc.active.comm.filterTime k.val ≤ (s.trip.filter k.val).stable + (time - s.localTime) := by
  rw [State.lineStable, decide_eq_true_eq, advanceTo_stable time hrun (by omega), State.advanceTo_svc]

section
variable (s : State) (k : Fin 4) (high : Bool)

theorem changeLevel_changesOnly : ChangesOnly s (s.changeLevel k high) [.trip, .pins] := by
  intro b hb; cases b <;> simp [Block.Same, State.changeLevel] at hb ⊢

theorem changeLevel_filters_length : (s.changeLevel k high).trip.filters.length = s.trip.filters.length := by
  simp [State.changeLevel]

theorem changeLevel_filter_ne {j : Nat} (hne : j ≠ k.val) :
    (s.changeLevel k high).trip.filter j = s.trip.filter j := by
  simp [State.changeLevel, TripUnit.filter, List.getElem?_set_ne hne.symm]

theorem changeLevel_filter_self (hlen : s.trip.filters.length = 4) :
    (s.changeLevel k high).trip.filter k.val = { s.trip.filter k.val with stable := 0 } := by
  simp [State.changeLevel, TripUnit.filter, hlen]

/-- The new level is stable at once with a filter time of 0, and with no other (R151). -/
theorem changeLevel_lineStable_iff (hlen : s.trip.filters.length = 4) :
    (s.changeLevel k high).lineStable k = true ↔ s.svc.active.comm.filterTime k.val = 0 := by
  rw [State.lineStable, decide_eq_true_eq, changeLevel_filter_self s k high hlen, Nat.le_zero]
  rfl

theorem changeLevel_line (hlen : s.pins.breakLines.length = 4) : (s.changeLevel k high).pins.line k.val = high := by
  simp [State.changeLevel, Pins.line, hlen]

end

section
variable {s : State} {k : Fin 4} {high : Bool} (time : Nat) (hchange : s.pins.line k.val ≠ high)
include hchange

theorem exec_levelChange_loading (hload : s.svc.node = .loading) :
    exec (.breakLineLevelChange k high time) s =
      .next { s with pins := { s.pins with breakLines := s.pins.breakLines.set k.val high } } :=
  congrArg Host.Outcome.next (by rw [State.lineChanged, if_neg hchange, if_pos hload])

theorem exec_levelChange_running (hrun : s.svc.node ≠ .loading) :
    exec (.breakLineLevelChange k high time) s =
      .next (let u := (s.advanceTo time).changeLevel k high
        if u.lineStable k then u.takeLevel k else u) :=
  congrArg Host.Outcome.next (by rw [State.lineChanged, if_neg hchange, if_neg hrun])

end

theorem exec_breakLineLevelTaken (k : Fin 4) (time : Nat) (s : State) :
    exec (.breakLineLevelTaken k time) s =
      .next (if s.svc.node = .loading then s
        else if (s.advanceTo time).lineStable k then (s.advanceTo time).takeLevel k else s) := rfl

/-- Settles O41: the change restarts the timer, and `levelTaken_takeLevel` says what the take of a stable level does. -/
theorem breakLinesAreFilteredAndJudged : Obligations.BreakLinesAreFilteredAndJudged := by
  refine ⟨fun s k high time hpins hlen hchange => ⟨fun hload => ?_, fun hrun => ?_⟩,
    fun s k time hrun hlen hstable => ?_, fun s k time hwait => ?_⟩
  · exact exec_levelChange_loading time hchange hload
  · let a := s.advanceTo time
    let u := a.changeLevel k high
    have halen : a.trip.filters.length = 4 := (advanceTo_filters_length s time).trans hlen
    have hself := changeLevel_filter_self a k high halen
    have hstable : u.lineStable k = true ↔ s.svc.active.comm.filterTime k.val = 0 := by
      rw [changeLevel_lineStable_iff a k high halen, s.advanceTo_svc time]
    refine ⟨u, _, exec_levelChange_running time hchange hrun, ?_, by rw [hself], ?_,
      fun j _ hne => changeLevel_filter_ne a k high hne, rfl, changeLevel_changesOnly a k high,
      fun hfilter => if_neg (hstable.not.2 hfilter), fun hfilter => ?_⟩
    · change { a.pins with breakLines := a.pins.breakLines.set k.val high } = _
      rw [s.advanceTo_pins time]
    · rw [hself]; exact s.advanceTo_taken time k.val
    · have hline : u.pins.line k.val = high := changeLevel_line a k high (by rw [s.advanceTo_pins time, hpins])
      have htaken := levelTaken_takeLevel u k ((changeLevel_filters_length a k high).trans halen)
      rw [hline] at htaken
      exact (if_pos (hstable.2 hfilter)).symm ▸ htaken
  · have hdue := (advanceTo_lineStable_iff k time hrun hlen).2 hstable
    refine ⟨_, by rw [exec_breakLineLevelTaken, if_neg hrun, if_pos hdue], ?_⟩
    have htaken := levelTaken_takeLevel (s.advanceTo time) k (by rw [advanceTo_filters_length, hlen])
    rwa [State.advanceTo_pins] at htaken
  · rw [exec_breakLineLevelTaken]
    by_cases hload : s.svc.node = .loading
    · rw [if_pos hload]
    · obtain ⟨hlen, hearly⟩ := hwait.resolve_left hload
      rw [if_neg hload, if_neg ((advanceTo_lineStable_iff k time hload hlen).not.2 hearly.not_ge)]

/-! ### TRIP_RESET and TEST_TRIP (R156 to R158) -/

/-- A request of these two kinds that carries no payload passes the common checks (Table 11.2). -/
theorem checked_of_no_payload (s : State) {r : Request} {k : RequestKind} (hk : k = .tripReset ∨ k = .testTrip)
    (hpayload : r.payload = []) (f : State × Reply) : s.checked k r f = f := by
  have hcheck : commonCheck k r = none := by rcases hk with rfl | rfl <;> simp [commonCheck, lengthCheck, hpayload]
  rw [State.checked, hcheck]

theorem request_running {s : State} (hrun : s.svc.node ≠ .loading) (served : State × Reply) :
    s.request served = { served.1 with lastReply := some served.2 } := if_neg hrun

/-- A trip condition that is present (R156). -/
theorem tripCondition_iff (s : State) :
    s.tripCondition = true ↔
      (∃ k < 4, (s.svc.active.comm.lineMode k = .high ∧ (s.trip.filter k).taken = some true)
          ∨ (s.svc.active.comm.lineMode k = .low ∧ (s.trip.filter k).taken = some false))
        ∨ s.trip.breakCell = true ∨ s.engine.exhaust.level = true := by
  simp [State.tripCondition, State.lineActive, LineMode.active_iff, or_assoc]

/-- An accepted TRIP_RESET (R157): in a running part the latch alone holds TRIP high (R150). -/
theorem resetTrip_eq {s : State} (hrun : s.svc.node ≠ .loading) :
    s.resetTrip = { s with
      trip := { s.trip with latch := false, causes := 0, firstCause := none }
      pins := { s.pins with
        tripLine := false
        heatRequest := s.engine.dryer.state.heated && s.svc.node == .operate && !s.trip.tripMark } } := by
  simp [State.resetTrip, State.formHeat, State.formTrip, State.heatLevel, State.tripLevel, hrun]

theorem exec_tripReset {s : State} {r : Request} (hrun : s.svc.node ≠ .loading) (hpayload : r.payload = []) :
    exec (.tripReset r) s =
      .next (let served :=
          if s.trip.latch = false then (s, .done r)
          else if s.trip.purgeDone = false then (s, .refused .purging r)
          else if s.tripCondition then (s, .refused .active r)
          else (s.resetTrip, .done r)
        { served.1 with lastReply := some served.2 }) :=
  congrArg Host.Outcome.next
    ((request_running hrun _).trans (by rw [serveTripReset, checked_of_no_payload s (.inl rfl) hpayload]))

theorem exec_testTrip {s : State} {r : Request} (time : Nat) (hrun : s.svc.node ≠ .loading)
    (hpayload : r.payload = []) :
    exec (.testTrip r time) s =
      .next (let served : State × Reply :=
          if s.engine.dryer.state = .run then (s.advanceTo time, .refused .state r)
          else ((s.advanceTo time).tripArrives .test, .done r)
        { served.1 with lastReply := some served.2 }) := by
  have hlater : (s.advanceTo time).svc.node ≠ .loading := by rwa [State.advanceTo_svc]
  refine congrArg Host.Outcome.next ((request_running hlater _).trans ?_)
  rw [serveTestTrip, checked_of_no_payload _ (.inr rfl) hpayload, State.advanceTo_engine]

/-- Settles O51: the order of Table 10.5, the reset as `resetTrip_eq` gives it, and TEST_TRIP by the dryer state. -/
theorem tripRequestsAreJudged : Obligations.TripRequestsAreJudged := by
  refine ⟨fun s r hrun hpayload => ?_, fun s r time hrun hpayload => ?_⟩
  · intro holds
    have hholds : s.tripCondition = true ↔ holds := tripCondition_iff s
    simp only [exec_tripReset hrun hpayload, Reply.done, Reply.refused, Reply.plain, hpayload]
    refine ⟨fun hclear => ?_, fun hset hpurging => ?_, fun hset hdone hpresent => ?_, fun hset hdone hnone => ?_⟩
    · rw [if_pos hclear]
    · rw [if_neg (by simp [hset]), if_pos hpurging]
    · rw [if_neg (by simp [hset]), if_neg (by simp [hdone]), if_pos (hholds.2 hpresent)]
    · rw [if_neg (by simp [hset]), if_neg (by simp [hdone]), if_neg (hholds.not.2 hnone), resetTrip_eq hrun]
  · simp only [exec_testTrip time hrun hpayload, Reply.done, Reply.refused, Reply.plain, hpayload]
    exact ⟨fun h => by rw [if_pos h], fun h => by rw [if_neg h]⟩

end Sys2Proof.Machine
end

section
/-!
SUPPORT. Proofs about the invariants of the trip record and of the track: the ranges of the track's records, their
spacing through stage 5, and what each command makes of both.
-/
namespace Sys2Proof.Machine

/-! ### The ranges of the track (R99, R102, R108, R111) -/

theorem withReason_nodup {rs : List WasteReason} (h : rs.Nodup) (found : Bool) (r : WasteReason) :
    (withReason rs found r).Nodup := by
  rw [withReason]
  split
  · next hnew => exact h.append (List.nodup_singleton r) (List.disjoint_singleton.2 hnew.2)
  · rwa [List.append_nil]

theorem withReasons_nodup (findings : List (Bool × WasteReason)) {rs : List WasteReason} (h : rs.Nodup) :
    (withReasons rs findings).Nodup := by
  induction findings generalizing rs with
  | nil => exact h
  | cons f rest ih => exact ih (withReason_nodup h f.1 f.2)

theorem coverageClass_le (coverage : Sample) : coverageClass coverage ≤ 3 := by
  cases coverage with
  | valid v =>
    have hclamp : clamp v 0 3 = max 0 (min v 3) := clamp_zero v 3
    rw [coverageClass, hclamp]
    omega
  | invalid | absent => exact Nat.zero_le 3

theorem admissionReasons_nodup (dryer : DryerState) (splice : Sample) : (admissionReasons dryer splice).Nodup := by
  unfold admissionReasons
  split <;> split <;> decide

theorem newSegment_inRange (t : TrackRec) (coverage : Sample) (dryer : DryerState) (splice : Sample) (length i : Nat) :
    (t.newSegment (coverageClass coverage) (admissionReasons dryer splice) length i).InRange :=
  ⟨Nat.zero_le _, coverageClass_le coverage, admissionReasons_nodup dryer splice⟩

/-- A passage saturates the dose, keeps the class and adds each reason at most once. -/
theorem Segment.InRange.passed {g : Segment} (h : g.InRange) (s : State) (odometer : BitVec 32) (mm : Nat)
    (fresh : Bool) : (g.passed s odometer mm fresh).InRange := by
  obtain ⟨hdose, hcls, hreasons⟩ := h
  exact ⟨(doseAfter_bounds s g.dose _ hdose).2, hcls, withReasons_nodup _ hreasons⟩

/-- Admission stops at 128 records (R108). -/
theorem TrackRec.Admits.length_le {t : TrackRec} {length mm n : Nat} (h : t.Admits length mm n)
    (hfull : t.records.length ≤ 128) : t.records.length + n ≤ 128 := by
  cases hanchored : t.anchored with
  | true =>
    obtain ⟨-, hdue, -⟩ := h.anchored hanchored
    cases n with
    | zero => exact hfull
    | succ n => exact (hdue n n.lt_succ_self).2
  | false =>
    by_cases hroom : 1 ≤ mm ∧ t.records.length < 128
    · obtain rfl := h.anchoring hanchored hroom.1 hroom.2
      exact hroom.2
    · obtain rfl := h.waiting hanchored (by omega)
      exact hfull

theorem passage_spec (s : State) (fresh : Bool) (g : Segment) :
    s.passage fresh g = (g.passed s s.advancedTrack.odometer s.moved fresh,
      g.comesTo s s.advancedTrack.odometer s.moved fresh s.svc.active.comm.chillExit) := passage_eq ..

theorem passages_length (s : State) (n : Nat) : (s.passages n).length = s.engine.track.records.length + n := by
  simp [State.passages, State.admitted, newSegments_length]

/-- Every record after its passage is in range, old or new. -/
theorem passages_inRange {s : State} (h : ∀ g ∈ s.engine.track.records, g.InRange) (n : Nat) :
    ∀ p ∈ s.passages n, p.1.InRange := by
  intro p hp
  rcases List.mem_append.1 hp with hold | hnew
  · obtain ⟨g, hg, rfl⟩ := List.mem_map.1 hold
    rw [passage_spec]
    exact (h g hg).passed ..
  · obtain ⟨g, hg, rfl⟩ := List.mem_map.1 hnew
    obtain ⟨i, -, rfl⟩ := List.mem_map.1 hg
    rw [passage_spec]
    exact (newSegment_inRange ..).passed ..

/-- Stage 5 keeps the ranges: a flush empties the track, and otherwise records pass, join and leave. -/
theorem trackResult_inRange {s : State} (c : Computation) (h : s.TrackInRange) :
    (s.trackResult c).track.records.length ≤ 128 ∧ (s.trackResult c).track.residue < 1000000
      ∧ ∀ g ∈ (s.trackResult c).track.records, g.InRange := by
  obtain ⟨hlength, -, hrecords⟩ := h
  have hresidue : (s.trackResult c).track.residue < 1000000 := by
    rw [(trackResult_advance s c).2]
    exact Nat.mod_lt _ (by decide)
  by_cases hflush : s.tripFlush = true ∨ c.configFlush = true
  · rw [trackResult_flush hflush] at hresidue ⊢
    exact ⟨Nat.zero_le _, hresidue, fun g hg => absurd hg List.not_mem_nil⟩
  · rw [not_or, Bool.not_eq_true, Bool.not_eq_true] at hflush
    obtain ⟨n, hresult, hadmits⟩ := runResult_eq s
    rw [trackResult_run hflush.1 hflush.2, hresult] at hresidue ⊢
    refine ⟨?_, hresidue, List.forall_mem_map.2 fun p hp => passages_inRange hrecords n p (List.mem_filter.1 hp).1⟩
    calc (((s.passages n).filter fun o => !o.2).map (·.1)).length
        ≤ (s.passages n).length := by rw [List.length_map]; exact List.length_filter_le ..
      _ = s.engine.track.records.length + n := passages_length s n
      _ ≤ 128 := hadmits.length_le hlength

theorem EngineMove.trackInRange {s t : State} (hmove : EngineMove s t.engine) (h : s.TrackInRange) :
    t.TrackInRange := by
  unfold State.TrackInRange
  cases hmove with
  | kept ht => rw [ht]; exact h
  | reset ht => rw [ht]; exact ⟨Nat.zero_le _, by decide, fun g hg => absurd hg List.not_mem_nil⟩
  | trackStage c _ _ ht => rw [ht]; exact trackResult_inRange c h
  | begun samples c ht => rw [ht]; exact h
  | speedStage c _ _ ht => rw [ht, takeSpeedStage_engine]; exact h
  | dryerStep c _ _ permit ht => rw [ht]; exact h
  | zoneStage c _ _ ht | exhaustStage c _ _ ht | chillStage c _ _ ht | publication c _ _ ht => rw [ht]; exact h

/-! ### Records one length apart (R109) -/

/-- The records stand one length apart in mark and one apart in seq, up to this next mark and this next seq. -/
def Spaced (length : Nat) (mark : BitVec 32) (seq : BitVec 16) : List Segment → Prop
  | [] => True
  | g :: rest =>
    mark = g.mark + BitVec.ofNat 32 ((rest.length + 1) * length) ∧ seq = g.seq + BitVec.ofNat 16 (rest.length + 1)
      ∧ Spaced length mark seq rest

/-- `h` stands one length behind `g`, and its seq is the next (R109). -/
def Segment.Next (length : Nat) (g h : Segment) : Prop := h.mark = g.mark + BitVec.ofNat 32 length ∧ h.seq = g.seq + 1

theorem forall_neighbours_iff {R : Segment → Segment → Prop} (l : List Segment) :
    (∀ i g h, l[i]? = some g → l[i + 1]? = some h → R g h) ↔ l.IsChain R := by
  rw [List.isChain_iff_getElem]
  constructor
  · exact fun hall i hi => hall i _ _ (List.getElem?_eq_getElem (by omega)) (List.getElem?_eq_getElem hi)
  · rintro hall i g h hg hh
    obtain ⟨hi, rfl⟩ := List.getElem?_eq_some_iff.1 hg
    obtain ⟨hi, rfl⟩ := List.getElem?_eq_some_iff.1 hh
    exact hall i hi

section
variable {length : Nat} {mark : BitVec 32} {seq : BitVec 16}

theorem Spaced.mem {l : List Segment} (h : Spaced length mark seq l) {g : Segment} (hg : g ∈ l) :
    ∃ j, 1 ≤ j ∧ j ≤ l.length ∧ mark = g.mark + BitVec.ofNat 32 (j * length) := by
  induction l with
  | nil => cases hg
  | cons head rest ih =>
    obtain ⟨hmark, -, hrest⟩ := h
    rcases List.mem_cons.1 hg with rfl | hg
    · exact ⟨rest.length + 1, by omega, le_rfl, hmark⟩
    · obtain ⟨j, hj, hle, heq⟩ := ih hrest hg
      exact ⟨j, hj, hle.trans (Nat.le_succ _), heq⟩

/-- Spacing looks at marks and seqs alone. -/
theorem Spaced.map {l : List Segment} (h : Spaced length mark seq l) {f : Segment → Segment}
    (hf : ∀ g, (f g).mark = g.mark ∧ (f g).seq = g.seq) : Spaced length mark seq (l.map f) := by
  induction l with
  | nil => exact h
  | cons g rest ih =>
    obtain ⟨hmark, hseq, hrest⟩ := h
    refine ⟨?_, ?_, ih hrest⟩
    · rwa [List.length_map, (hf g).1]
    · rwa [List.length_map, (hf g).2]

/-- Records that go before others stand back from their end by the length of those. -/
theorem Spaced.append {before after : List Segment} (hbefore : Spaced length mark seq before)
    (hafter : Spaced length (mark + BitVec.ofNat 32 (after.length * length)) (seq + BitVec.ofNat 16 after.length)
      after) :
    Spaced length (mark + BitVec.ofNat 32 (after.length * length)) (seq + BitVec.ofNat 16 after.length)
      (before ++ after) := by
  induction before with
  | nil => exact hafter
  | cons g rest ih =>
    obtain ⟨hmark, hseq, hrest⟩ := hbefore
    rw [List.cons_append]
    refine ⟨?_, ?_, ih hrest⟩
    · rw [hmark, List.length_append, BitVec.add_assoc, ← BitVec.ofNat_add, ← Nat.add_mul, Nat.add_right_comm]
    · rw [hseq, List.length_append, BitVec.add_assoc, ← BitVec.ofNat_add, Nat.add_right_comm]

/-- A record stands in front of the next one as far as it stands further back from the same end. -/
theorem next_iff {g h : Segment} {n : Nat} (hmark : mark = h.mark + BitVec.ofNat 32 (n * length))
    (hseq : seq = h.seq + BitVec.ofNat 16 n) :
    mark = g.mark + BitVec.ofNat 32 ((n + 1) * length) ∧ seq = g.seq + BitVec.ofNat 16 (n + 1) ↔ g.Next length h := by
  rw [hmark, hseq, ← mark_step, ← seq_step, add_left_inj, add_left_inj]
  rfl

/-- What `Spaced` says, neighbour by neighbour. -/
theorem spaced_iff {l : List Segment} :
    Spaced length mark seq l ↔
      l.IsChain (Segment.Next length)
        ∧ ∀ g, l.getLast? = some g → mark = g.mark + BitVec.ofNat 32 length ∧ seq = g.seq + 1 := by
  induction l with
  | nil => simp [Spaced]
  | cons g rest ih =>
    cases rest with
    | nil => simp [Spaced]
    | cons h rest =>
      rw [Spaced, ih, List.isChain_cons_cons, List.getLast?_cons_cons, ← and_assoc, and_assoc (a := g.Next length h),
        ← ih]
      exact and_congr_left fun hrest => next_iff hrest.1 hrest.2.1

theorem newSegments_spaced (t : TrackRec) (cls : Nat) (reasons : List WasteReason) (n : Nat) :
    Spaced length (t.firstMark + BitVec.ofNat 32 (n * length)) (t.nextSeq + BitVec.ofNat 16 n)
      (t.newSegments cls reasons length n) := by
  induction n with
  | zero => trivial
  | succ n ih =>
    have hlist : t.newSegments cls reasons length (n + 1) =
        t.newSegments cls reasons length n ++ [t.newSegment cls reasons length n] := by
      simp [TrackRec.newSegments, List.range_succ]
    have hlast : Spaced length (t.firstMark + BitVec.ofNat 32 (n * length) + BitVec.ofNat 32 (1 * length))
        (t.nextSeq + BitVec.ofNat 16 n + BitVec.ofNat 16 1) [t.newSegment cls reasons length n] := ⟨rfl, rfl, trivial⟩
    have hjoined := ih.append (after := [t.newSegment cls reasons length n]) hlast
    rw [hlist]
    rwa [List.length_singleton, BitVec.add_assoc, ← BitVec.ofNat_add, ← Nat.add_mul, BitVec.add_assoc,
      ← BitVec.ofNat_add] at hjoined

/-! ### Positions of spaced records (R101, R115) -/

/-- A record `n` behind a mark stands `n` past the entry, less what the mark lies ahead of the odometer. -/
theorem position_of_mark {g : Segment} {odometer : BitVec 32} {n : Nat} (hmark : mark = g.mark + BitVec.ofNat 32 n)
    (hahead : (mark - odometer).toNat ≤ n) (hn : n < 2 ^ 32) :
    g.position odometer = n - (mark - odometer).toNat := by
  subst hmark
  rw [Segment.position]
  bv_omega

/-- A position short of a wrap moves on with the odometer. -/
theorem position_add {g : Segment} {odometer : BitVec 32} {mm : Nat} (h : g.position odometer + mm < 2 ^ 32) :
    g.position (odometer + BitVec.ofNat 32 mm) = g.position odometer + mm := by
  rw [Segment.position] at h ⊢
  rw [Segment.position]
  bv_omega

/-- Where the older of two records has not come to a point, the newer has not. -/
theorem Spaced.position_le {odometer : BitVec 32} {g : Segment} {rest : List Segment}
    (h : Spaced length mark seq (g :: rest)) (hahead : (mark - odometer).toNat ≤ length)
    (hbound : (rest.length + 1) * length < 2 ^ 32) {newer : Segment} (hnewer : newer ∈ rest) :
    newer.position odometer ≤ g.position odometer := by
  obtain ⟨hmark, -, hrest⟩ := h
  obtain ⟨j, hone, hj, hmarkj⟩ := hrest.mem hnewer
  have hfirst : 1 * length ≤ j * length := Nat.mul_le_mul_right length hone
  have hlast : j * length ≤ (rest.length + 1) * length := Nat.mul_le_mul_right length (by omega)
  rw [position_of_mark hmark (by omega) hbound, position_of_mark hmarkj (by omega) (by omega)]
  omega

/-- The records that have not come to the chill exit are the newest: they stay spaced. -/
theorem Spaced.filter {odometer : BitVec 32} {exit : Nat} {ps : List (Segment × Bool)}
    (h : Spaced length mark seq (ps.map (·.1))) (hahead : (mark - odometer).toNat ≤ length)
    (hbound : ps.length * length < 2 ^ 32)
    (hstay : ∀ p ∈ ps, p.2 = false ↔ p.1.midpoint odometer length < exit) :
    Spaced length mark seq ((ps.filter fun o => !o.2).map (·.1)) := by
  induction ps with
  | nil => trivial
  | cons p rest ih =>
    obtain ⟨hp, hrest⟩ := List.forall_mem_cons.1 hstay
    cases hgone : p.2 with
    | true =>
      have hshorter : rest.length * length ≤ (rest.length + 1) * length := Nat.mul_le_mul_right length (by omega)
      obtain ⟨-, -, hspaced⟩ := h
      rw [List.filter_cons_of_neg (by simp [hgone])]
      exact ih hspaced (by rw [List.length_cons] at hbound; omega) hrest
    | false =>
      have hall : ∀ o ∈ p :: rest, (!o.2) = true := by
        rintro o ho
        rw [Bool.not_eq_true']
        rcases List.mem_cons.1 ho with rfl | ho
        · exact hgone
        · have hle : o.1.position odometer ≤ p.1.position odometer :=
            h.position_le hahead (by simpa using hbound) (List.mem_map_of_mem ho)
          have hmid := hp.1 hgone
          refine (hrest o ho).2 ?_
          rw [Segment.midpoint] at hmid ⊢
          omega
      rwa [List.filter_eq_self.2 hall]

end

/-! ### The spacing of a whole track (R109, R115, R119) -/

/-- What the track keeps under the commissioning tables `m` while no flush is due: its records are spaced up to the next
mark, which lies ahead of the odometer by at most a length, and none of them has come to the chill exit. -/
structure TrackRec.WellSpaced (k : TrackRec) (m : Commissioning) : Prop where
  spaced : Spaced m.segmentLength k.nextMark k.nextSeq k.records
  ahead : k.anchored = true →
    1 ≤ (k.nextMark - k.odometer).toNat ∧ (k.nextMark - k.odometer).toNat ≤ m.segmentLength
  short : ∀ g ∈ k.records, g.midpoint k.odometer m.segmentLength < m.chillExit

theorem trackSpaced_iff (s : State) :
    s.TrackSpaced ↔
      (s.engine.track.anchored = false → s.engine.track.records = [])
        ∧ s.engine.track.residue < 1000000
        ∧ (∀ c, s.engine.flight = some c → c.stage ≠ .speed → s.engine.speed.v ≤ s.svc.active.comm.vmax)
        ∧ (¬ s.FlushDue → s.engine.track.WellSpaced s.svc.active.comm) := by
  refine and_congr_right' (and_congr_right' (and_congr_right' (imp_congr_right fun _ => ?_)))
  constructor
  · rintro ⟨hnext, hlast, hahead, hshort⟩
    exact ⟨spaced_iff.2 ⟨(forall_neighbours_iff _).1 hnext, hlast⟩, hahead, hshort⟩
  · rintro ⟨hspaced, hahead, hshort⟩
    obtain ⟨hnext, hlast⟩ := spaced_iff.1 hspaced
    exact ⟨(forall_neighbours_iff _).2 hnext, hlast, hahead, hshort⟩

/-- An empty unanchored track has nothing to space. -/
theorem wellSpaced_of_empty {k : TrackRec} (m : Commissioning) (hanchored : k.anchored = false)
    (hempty : k.records = []) : k.WellSpaced m where
  spaced := by rw [hempty]; trivial
  ahead hyes := absurd hyes (ne_true_of_eq_false hanchored)
  short g hg := by rw [hempty] at hg; cases hg

/-- What accepted tables say of the segment length, the chill exit and the advance of one period (R118, R119); the
defaults meet it too. -/
theorem Commissioning.Accepted.geometry {m : Commissioning} (h : m.Accepted) :
    100 ≤ m.segmentLength ∧ m.segmentLength ≤ 2000 ∧ m.chillExit ≤ 120 * m.segmentLength
      ∧ m.vmax * m.period ≤ 4 * m.segmentLength * 1000000 := by
  rcases h with rfl | h
  · decide
  · have hgeometry : checkGeometry m = none := (firstSome_eq_none _).1 h _ (by simp)
    have hchecks := (firstSome_eq_none _).1 hgeometry
    have hranges := (checkRanges_eq_none _ _ _).1 (hchecks _ (List.mem_cons_self ..))
    have hlength := hranges 4 (100, 2000) rfl
    have hcapacity := hchecks (check (m.chillExit ≤ 120 * m.segmentLength)
      (Check.capacity.failed .geometry 64)) (by simp)
    have hadvance := hchecks (check (m.vmax * m.period ≤ 4 * m.segmentLength * 1000000)
      (Check.advance.failed .geometry 64)) (by simp)
    simp only [check, decide_eq_true_eq, ite_eq_left_iff, reduceCtorEq, imp_false, not_not] at hcapacity hadvance
    exact ⟨hlength.1, hlength.2, hcapacity, hadvance⟩

section
variable {k : TrackRec} {m : Commissioning} (h : k.WellSpaced m) (hanchored : k.anchored = true)
include h hanchored

/-- The position of a record, by its place from the next mark. -/
theorem TrackRec.WellSpaced.position {g : Segment} (hg : g ∈ k.records) (hlength : m.segmentLength ≤ 2000)
    (hfull : k.records.length ≤ 128) :
    ∃ j, 1 ≤ j ∧ j ≤ k.records.length
      ∧ g.position k.odometer = j * m.segmentLength - (k.nextMark - k.odometer).toNat := by
  obtain ⟨-, hahead⟩ := h.ahead hanchored
  obtain ⟨j, hone, hj, hmark⟩ := h.spaced.mem hg
  have hfirst : 1 * m.segmentLength ≤ j * m.segmentLength := Nat.mul_le_mul_right _ hone
  have hlast : j * m.segmentLength ≤ 128 * 2000 := Nat.mul_le_mul (hj.trans hfull) hlength
  exact ⟨j, hone, hj, position_of_mark hmark (by omega) (by omega)⟩

/-- The head has not come to the chill exit, which lies within 120 lengths: the track is never full (R119). -/
theorem TrackRec.WellSpaced.length_le (haccepted : m.Accepted) (hfull : k.records.length ≤ 128) :
    k.records.length ≤ 121 := by
  obtain ⟨hshortest, hlongest, hcapacity, -⟩ := haccepted.geometry
  obtain ⟨-, hahead⟩ := h.ahead hanchored
  cases hrecords : k.records with
  | nil => exact Nat.zero_le _
  | cons g rest =>
    have hspaced := h.spaced
    rw [hrecords] at hspaced hfull
    obtain ⟨hmark, -, -⟩ := hspaced
    have hlast : (rest.length + 1) * m.segmentLength ≤ 128 * 2000 := Nat.mul_le_mul hfull hlongest
    have hfirst : 1 * m.segmentLength ≤ (rest.length + 1) * m.segmentLength := Nat.mul_le_mul_right _ (by omega)
    have hposition := position_of_mark (odometer := k.odometer) hmark (by omega) (by omega)
    have hshort := h.short g (by rw [hrecords]; exact List.mem_cons_self ..)
    rw [Segment.midpoint, hposition] at hshort
    by_contra hlong
    have hmany : 122 * m.segmentLength ≤ (rest.length + 1) * m.segmentLength :=
      Nat.mul_le_mul_right _ (by rw [List.length_cons] at hlong; omega)
    omega

end

/-! ### Admission keeps the spacing (R107 to R109) -/

/-- Two numbers well short of a wrap compare by half a turn (R109). -/
theorem ofNat_sub_lt_half_iff {a b : Nat} (ha : a < 2 ^ 31) (hb : b < 2 ^ 31) :
    (BitVec.ofNat 32 a - BitVec.ofNat 32 b).toNat < 2 ^ 31 ↔ b ≤ a := by
  rw [BitVec.toNat_sub, BitVec.toNat_ofNat, BitVec.toNat_ofNat]
  omega

theorem ofNat_sub_toNat {a b : Nat} (hba : b ≤ a) (ha : a < 2 ^ 31) :
    (BitVec.ofNat 32 a - BitVec.ofNat 32 b).toNat = a - b := by
  rw [BitVec.toNat_sub, BitVec.toNat_ofNat, BitVec.toNat_ofNat]
  omega

/-- After the advance the next mark of an anchored track lies ahead again, by at most a length: a period moves the web
by at most four lengths (R119), and four segments may be admitted. -/
theorem grown_ahead {length mm n : Nat} {odometer nextMark : BitVec 32} (hlength : length ≤ 2000)
    (hmoved : mm ≤ 4 * length) (hone : 1 ≤ (nextMark - odometer).toNat) (hle : (nextMark - odometer).toNat ≤ length)
    (hfour : n ≤ 4)
    (hdue : ∀ i < n, (odometer + BitVec.ofNat 32 mm - (nextMark + BitVec.ofNat 32 (i * length))).toNat < 2 ^ 31)
    (hstop : n < 4 → ¬ (odometer + BitVec.ofNat 32 mm - (nextMark + BitVec.ofNat 32 (n * length))).toNat < 2 ^ 31) :
    1 ≤ (nextMark + BitVec.ofNat 32 (n * length) - (odometer + BitVec.ofNat 32 mm)).toNat
      ∧ (nextMark + BitVec.ofNat 32 (n * length) - (odometer + BitVec.ofNat 32 mm)).toNat ≤ length := by
  obtain ⟨ahead, hahead⟩ : ∃ ahead, (nextMark - odometer).toNat = ahead := ⟨_, rfl⟩
  rw [hahead] at hone hle
  have hmark : nextMark = odometer + BitVec.ofNat 32 ahead := by
    rw [← hahead, BitVec.ofNat_toNat, BitVec.setWidth_eq, add_sub_cancel]
  have hstretch (i : Nat) (hi : i ≤ 4) : i * length ≤ 4 * 2000 := Nat.mul_le_mul hi hlength
  have hdue_iff (i : Nat) (hi : i ≤ 4) :
      (odometer + BitVec.ofNat 32 mm - (nextMark + BitVec.ofNat 32 (i * length))).toNat < 2 ^ 31 ↔
        ahead + i * length ≤ mm := by
    have := hstretch i hi
    rw [hmark, add_assoc, ← BitVec.ofNat_add, add_sub_add_left_eq_sub, ofNat_sub_lt_half_iff (by omega) (by omega)]
  have hbeyond : mm < ahead + n * length := by
    by_cases hn : n < 4
    · exact Nat.lt_of_not_le ((hdue_iff n hfour).not.1 (hstop hn))
    · obtain rfl : n = 4 := by omega
      omega
  have hwithin : ahead + n * length ≤ mm + length := by
    cases n with
    | zero => omega
    | succ n =>
      have hlast := (hdue_iff n (by omega)).1 (hdue n n.lt_succ_self)
      rw [Nat.succ_mul]
      omega
  have := hstretch n hfour
  rw [hmark, add_assoc, ← BitVec.ofNat_add, add_sub_add_left_eq_sub, ofNat_sub_toNat hbeyond.le (by omega)]
  omega

/-! ### Stage 5 keeps the spacing -/

/-- One period moves the web by at most four lengths (R31, R100, R119). -/
theorem moved_le {s : State} (haccepted : s.svc.active.comm.Accepted) (hresidue : s.engine.track.residue < 1000000)
    (hv : s.engine.speed.v ≤ s.svc.active.comm.vmax) : s.moved ≤ 4 * s.svc.active.comm.segmentLength := by
  obtain ⟨-, -, -, hadvance⟩ := haccepted.geometry
  have hspeed : s.engine.speed.v * s.svc.active.comm.period ≤ s.svc.active.comm.vmax * s.svc.active.comm.period :=
    Nat.mul_le_mul_right _ hv
  rw [State.moved, TrackRec.advanceBy]
  omega

/-- What stage 5 of a part without a flush starts from. -/
structure State.RunsSpaced (s : State) (n : Nat) : Prop where
  accepted : s.svc.active.comm.Accepted
  full : s.engine.track.records.length ≤ 128
  empty : s.engine.track.anchored = false → s.engine.track.records = []
  residue : s.engine.track.residue < 1000000
  speed : s.engine.speed.v ≤ s.svc.active.comm.vmax
  spaced : s.engine.track.WellSpaced s.svc.active.comm
  admits : s.advancedTrack.Admits s.svc.active.comm.segmentLength s.moved n

section
variable {s : State} {n : Nat} (h : s.RunsSpaced n)
include h

/-- The next mark after admission lies ahead of the odometer, by at most a length. -/
theorem State.RunsSpaced.grown_ahead (hgrows : s.engine.track.anchored = true ∨ 0 < n) :
    1 ≤ ((s.grownTrack n).nextMark - s.advancedTrack.odometer).toNat
      ∧ ((s.grownTrack n).nextMark - s.advancedTrack.odometer).toNat ≤ s.svc.active.comm.segmentLength := by
  obtain ⟨hshortest, hlongest, -, -⟩ := h.accepted.geometry
  cases hanchored : s.engine.track.anchored with
  | true =>
    obtain ⟨hone, hle⟩ := h.spaced.ahead hanchored
    obtain ⟨hfour, hdue, hstop⟩ := h.admits.anchored hanchored
    have hroom : s.advancedTrack.records.length ≤ 121 := h.spaced.length_le hanchored h.accepted h.full
    rw [grownTrack_nextMark_anchored hanchored]
    exact Machine.grown_ahead hlongest (moved_le h.accepted h.residue h.speed) hone hle hfour
      (fun i hi => (hdue i hi).1) fun hn hlast => hstop hn ⟨hlast, by omega⟩
  | false =>
    have hpos : 0 < n := hgrows.resolve_left (ne_true_of_eq_false hanchored)
    have hroom : s.advancedTrack.records.length < 128 := by
      change s.engine.track.records.length < 128
      simp [h.empty hanchored]
    obtain rfl : n = 1 := by
      by_cases hmoves : 1 ≤ s.moved
      · exact h.admits.anchoring hanchored hmoves hroom
      · have := h.admits.waiting hanchored (by omega)
        omega
    rw [grownTrack_nextMark_one hanchored, add_sub_cancel_left, BitVec.toNat_ofNat, Nat.mod_eq_of_lt (by omega)]
    omega

/-- The records after their passages stand spaced up to the new next mark. -/
theorem State.RunsSpaced.passages_spaced (hgrows : s.engine.track.anchored = true ∨ 0 < n) :
    Spaced s.svc.active.comm.segmentLength (s.grownTrack n).nextMark (s.grownTrack n).nextSeq
      ((s.passages n).map (·.1)) := by
  have hold : Spaced s.svc.active.comm.segmentLength s.advancedTrack.firstMark s.advancedTrack.nextSeq
      s.engine.track.records := by
    cases hanchored : s.engine.track.anchored with
    | true =>
      have hfirst : s.advancedTrack.firstMark = s.engine.track.nextMark := firstMark_anchored hanchored
      rw [hfirst]
      exact h.spaced.spaced
    | false => rw [h.empty hanchored]; trivial
  have hpassed (fresh : Bool) (l : List Segment) : (l.map (s.passage fresh)).map (·.1) =
      l.map fun g => g.passed s s.advancedTrack.odometer s.moved fresh := by
    simp only [List.map_map, Function.comp_def, passage_spec]
  have hnew := newSegments_spaced (length := s.svc.active.comm.segmentLength) s.advancedTrack
    (coverageClass s.engine.samples.inkCoverage) (admissionReasons s.engine.dryer.state s.engine.samples.splice) n
  have hlength : ((s.admitted n).map fun g => g.passed s s.advancedTrack.odometer s.moved true).length = n := by
    simp [State.admitted, newSegments_length]
  have hmark : (s.grownTrack n).nextMark = _ := grown_nextMark _ _ _ (t := s.advancedTrack) hgrows
  have holdPassed := hold.map (f := fun g => g.passed s s.advancedTrack.odometer s.moved false) fun _ => ⟨rfl, rfl⟩
  have hjoined := holdPassed.append
    (after := (s.admitted n).map fun g => g.passed s s.advancedTrack.odometer s.moved true)
    (by rw [hlength]; exact hnew.map fun _ => ⟨rfl, rfl⟩)
  rw [hlength] at hjoined
  rw [State.passages, List.map_append, hpassed, hpassed, hmark]
  exact hjoined

/-- A record stays where its midpoint has not come to the chill exit: an old one had not come there before either. -/
theorem State.RunsSpaced.stays : ∀ p ∈ s.passages n, p.2 = false ↔
    p.1.midpoint s.advancedTrack.odometer s.svc.active.comm.segmentLength < s.svc.active.comm.chillExit := by
  obtain ⟨-, hlongest, -, -⟩ := h.accepted.geometry
  have hmoved := moved_le h.accepted h.residue h.speed
  intro p hp
  rcases List.mem_append.1 hp with hold | hnew
  · obtain ⟨g, hg, rfl⟩ := List.mem_map.1 hold
    have hanchored : s.engine.track.anchored = true := by
      by_contra hno
      rw [h.empty (Bool.eq_false_iff.2 hno)] at hg
      cases hg
    obtain ⟨j, -, hj, hposition⟩ := h.spaced.position hanchored hg hlongest h.full
    have hlast : j * s.svc.active.comm.segmentLength ≤ 128 * 2000 := Nat.mul_le_mul (hj.trans h.full) hlongest
    have hmoves : g.position s.advancedTrack.odometer = g.position s.engine.track.odometer + s.moved :=
      position_add (mm := s.moved) (by omega)
    have hbefore := h.spaced.short g hg
    rw [passage_spec, ← Bool.not_eq_true, comesTo_iff]
    change _ ↔ g.midpoint _ _ < _
    rw [Segment.midpoint] at hbefore ⊢
    omega
  · obtain ⟨g, -, rfl⟩ := List.mem_map.1 hnew
    rw [passage_spec, ← Bool.not_eq_true, comesTo_iff]
    change _ ↔ g.midpoint _ _ < _
    simp

/-- Without a flush the track that stage 5 leaves is spaced again, and empty where it is unanchored. -/
theorem State.RunsSpaced.ranResult_wellSpaced :
    ((s.ranResult n).track.anchored = false → (s.ranResult n).track.records = [])
      ∧ (s.ranResult n).track.WellSpaced s.svc.active.comm := by
  by_cases hgrows : s.engine.track.anchored = true ∨ 0 < n
  · have hanchored : (s.ranResult n).track.anchored = true := grownTrack_anchored hgrows
    obtain ⟨-, hlongest, -, -⟩ := h.accepted.geometry
    have hlength : (s.passages n).length ≤ 128 :=
      (passages_length s n).trans_le (h.admits.length_le h.full)
    have hbound : (s.passages n).length * s.svc.active.comm.segmentLength ≤ 128 * 2000 :=
      Nat.mul_le_mul hlength hlongest
    have hahead := h.grown_ahead hgrows
    refine ⟨fun hno => absurd hno (ne_false_of_eq_true hanchored),
      { spaced := (h.passages_spaced hgrows).filter hahead.2 (by omega) h.stays
        ahead := fun _ => hahead
        short := List.forall_mem_map.2 fun p hp => ?_ }⟩
    obtain ⟨hp, hstay⟩ := List.mem_filter.1 hp
    exact (h.stays p hp).1 (Bool.not_eq_true' _ ▸ hstay)
  · obtain ⟨hanchored, hn⟩ := not_or.1 hgrows
    obtain rfl : n = 0 := by omega
    rw [Bool.not_eq_true] at hanchored
    have hpassages : s.passages 0 = [] := List.length_eq_zero_iff.1 (by simp [passages_length, h.empty hanchored])
    have hempty : (s.ranResult 0).track.records = [] := by simp [State.ranResult, hpassages]
    have hstill : (s.ranResult 0).track.anchored = false := by
      simp [State.ranResult, State.grownTrack, grown_zero, State.advancedTrack, TrackRec.advanced, hanchored]
    exact ⟨fun _ => hempty, wellSpaced_of_empty _ hstill hempty⟩

end

/-! ### The trip record agrees with itself (R147 to R149, R157) -/

theorem Cause.mask_bit (c : Cause) : c.mask.getLsbD c.bit = true := by
  cases c with
  | breakLine k => exact (breakLine_mask_getLsbD k k.val).2 rfl
  | breakCell | lel | overtemp | link | test | restart => decide

/-- All that `Consistent` reads of a trip record. -/
def TripUnit.terms (t : TripUnit) : Bool × BitVec 10 × Option Cause × Bool × Bool :=
  (t.latch, t.causes, t.firstCause, t.purgeTimer.isSome, t.purgeDone)

theorem consistent_of_terms {t u : TripUnit} (h : t.Consistent) (hterms : u.terms = t.terms) : u.Consistent := by
  simp only [TripUnit.terms, Prod.mk.injEq] at hterms
  obtain ⟨hlatch, hcauses, hfirst, htimer, hdone⟩ := hterms
  have hstopped : u.purgeTimer = none ↔ t.purgeTimer = none := by
    rw [← Option.not_isSome_iff_eq_none, ← Option.not_isSome_iff_eq_none, htimer]
  unfold TripUnit.Consistent
  rw [hlatch, hcauses, hfirst, hstopped, htimer, hdone]
  exact h

/-- The trip record agrees with itself. -/
def State.TripConsistent (s : State) : Prop := s.trip.Consistent

theorem tripConsistent_of_trip {s t : State} (h : s.TripConsistent) (htrip : t.trip = s.trip) : t.TripConsistent := by
  unfold State.TripConsistent
  rw [htrip]
  exact h

theorem tripConsistent_of_reset {t : State} (htrip : t.trip = .reset) : t.TripConsistent := by
  unfold State.TripConsistent
  rw [htrip]
  exact ⟨fun _ => ⟨rfl, rfl, rfl⟩, nofun, nofun⟩

section
variable {s : State} (h : s.TripConsistent)
include h

theorem State.TripConsistent.advanceTo (time : Nat) : (s.advanceTo time).TripConsistent := by
  rcases s.advanceTo_spec time with heq | heq <;> rw [heq]
  · exact h
  · exact consistent_of_terms h (by simp [TripUnit.terms, TripUnit.elapse])

/-- A trip sets the latch with its cause or adds it to those held, and starts the purge (R147, R148). -/
theorem State.TripConsistent.tripArrives (c : Cause) : (s.tripArrives c).TripConsistent := by
  refine ⟨fun hclear => absurd (s.tripArrives_latch c) (ne_true_of_eq_false hclear), fun _ => ?_, fun _ => by simp⟩
  rw [tripArrives_causes, tripArrives_firstCause]
  obtain ⟨-, hset, -⟩ := h
  cases hlatch : s.trip.latch with
  | false => exact ⟨c, rfl, c.mask_bit⟩
  | true =>
    obtain ⟨first, hfirst, hheld⟩ := hset hlatch
    exact ⟨first, hfirst, by simp [hheld]⟩

theorem State.TripConsistent.tripIf (b : Bool) (c : Cause) : (s.tripIf b c).TripConsistent := by
  unfold State.tripIf
  split
  exacts [h.tripArrives c, h]

/-- Break lines that act trip, or leave the trip record but for its filters. -/
theorem LinesActed.tripConsistent {t : State} {ks : List (Fin 4)} (hacted : LinesActed s t ks) : t.TripConsistent := by
  unfold State.TripConsistent
  rw [hacted.trip]
  cases s.svc.active.comm.tripping ks with
  | nil => exact consistent_of_terms h rfl
  | cons k rest =>
    refine ⟨nofun, fun _ => ?_, fun _ => by simp [TripUnit.lineTrips]⟩
    obtain ⟨-, hset, -⟩ := h
    cases hlatch : s.trip.latch with
    | false => exact ⟨.breakLine k, by simp [TripUnit.lineTrips, hlatch], by
        simpa [TripUnit.lineTrips, hlatch, lineCauses_cons] using .inl (Cause.breakLine k).mask_bit⟩
    | true =>
      obtain ⟨first, hfirst, hheld⟩ := hset hlatch
      exact ⟨first, by simp [TripUnit.lineTrips, hlatch, hfirst], by simp [TripUnit.lineTrips, hlatch, hheld]⟩

theorem State.TripConsistent.takeLevel (k : Fin 4) : (s.takeLevel k).TripConsistent := by
  by_cases huntaken : s.untaken k
  · exact (linesActed_takeLevel s k huntaken).tripConsistent h
  · rwa [takeLevel_taken huntaken]

theorem State.TripConsistent.lineChanged (line : Fin 4) (high : Bool) (time : Nat) :
    (s.lineChanged line high time).TripConsistent := by
  have hchanged : ((s.advanceTo time).changeLevel line high).TripConsistent :=
    consistent_of_terms (h.advanceTo time) rfl
  unfold State.lineChanged
  dsimp only
  split_ifs
  exacts [h, h, hchanged.takeLevel line, hchanged]

/-- Where the purge ends the timer stops with it (R149). -/
theorem State.TripConsistent.purgeExpires :
    ({ s with trip := { s.trip with purgeTimer := none, purgeDone := true } } : State).TripConsistent := by
  obtain ⟨hclear, hset, -⟩ := h
  refine ⟨fun hlatch => ?_, hset, fun _ => by simp⟩
  obtain ⟨hcauses, hfirst, -⟩ := hclear hlatch
  exact ⟨hcauses, hfirst, rfl⟩

/-- A TRIP_RESET is accepted once the purge is done, and then no timer runs (R157). -/
theorem State.TripConsistent.resetTrip (hset : s.trip.latch = true) (hdone : s.trip.purgeDone = true) :
    s.resetTrip.TripConsistent := by
  obtain ⟨-, -, htimer⟩ := h
  have hstopped : s.trip.purgeTimer = none := by simpa [hdone] using htimer hset
  exact ⟨fun _ => ⟨rfl, rfl, hstopped⟩, nofun, nofun⟩

theorem State.TripConsistent.takeLoadEnd : (takeLoadEnd s).TripConsistent := by
  have hloaded : ({ s with svc := s.svc.loaded s.nv, localTime := 0 } : State).TripConsistent := h
  exact consistent_of_terms
    ((tripConsistent_of_trip hloaded (State.latchIf_trip (!s.nv.marker) .storeInvalid _)).tripArrives .restart) rfl

/-! #### The stages -/

theorem State.TripConsistent.dryerStep (c : Computation) (time : Nat) (permit : Bool) :
    (takeDryerStep c permit (s.advanceTo time)).TripConsistent := by
  have hcell : (takeBreakCell (s.advanceTo time)).TripConsistent := by
    refine State.TripConsistent.tripIf ?_ ..
    exact consistent_of_terms (h.advanceTo time) rfl
  unfold State.TripConsistent
  rw [dryerStepped_trip]
  exact consistent_of_terms hcell rfl

theorem State.TripConsistent.zoneStage (c : Computation) : (takeZoneStage c s).TripConsistent :=
  (tripConsistent_of_trip h (zonesFound_trip s c)).tripIf ..

theorem State.TripConsistent.exhaustStage (c : Computation) : (takeExhaustStage c s).TripConsistent := by
  refine State.TripConsistent.tripIf (tripConsistent_of_trip h ?_) ..
  exact State.latchIf_trip ..

/-! #### Requests -/

theorem State.TripConsistent.checked {k : RequestKind} {r : Request} {f : State × Reply} (hf : f.1.TripConsistent) :
    (s.checked k r f).1.TripConsistent := by
  unfold State.checked
  split
  exacts [h, hf]

theorem State.TripConsistent.onTable {r : Request} {f : TableId → State × Reply} (hf : ∀ t, (f t).1.TripConsistent) :
    (onTable r s f).1.TripConsistent := by
  unfold Machine.onTable
  split
  exacts [h, hf _]

/-- TRIP_RESET and TEST_TRIP alone move the trip record. -/
theorem State.TripConsistent.serve (r : Request) (k : RequestKind) : (serve k r s).1.TripConsistent := by
  cases k with
  | read => exact h.checked (h.onTable fun t => by split <;> exact h)
  | write =>
    refine h.checked (h.onTable fun t => ?_)
    split
    · exact h
    · split <;> exact h
  | commit =>
    refine h.checked (h.onTable fun t => ?_)
    split
    · exact h
    · split <;> exact h
  | discard => exact h.checked (h.onTable fun t => by split <;> exact h)
  | enterConfig => refine h.checked ?_; split_ifs <;> exact h
  | leaveConfig =>
    refine h.checked ?_
    split_ifs
    · exact h
    · exact h
    · exact h
    · split <;> exact h
  | store => refine h.checked ?_; split_ifs <;> exact h
  | clearLatched => exact h.checked h
  | clearCauses => exact h.checked h
  | clearCounters => exact h.checked h
  | tripReset =>
    refine h.checked ?_
    split_ifs with hclear hpurging _
    exacts [h, h, h, h.resetTrip (by simpa using hclear) (by simpa using hpurging)]
  | testTrip => refine h.checked ?_; split_ifs; exacts [h, h.tripArrives _]
  | lineReset => refine h.checked ?_; split_ifs <;> exact h

theorem State.TripConsistent.serveRecord (r : Record) : (serveRecord r s).1.TripConsistent := by
  unfold Machine.serveRecord
  split
  exacts [h, h.serve _ _]

theorem State.TripConsistent.request (k : RequestKind) (r : Request) :
    (s.request (Machine.serve k r s)).TripConsistent := by
  unfold State.request
  split
  exacts [h, h.serve r k]

end

theorem State.TripConsistent.serveLane {s : State} (h : s.TripConsistent) (records : List Record) :
    (serveLane records s).1.TripConsistent := by
  induction records generalizing s with
  | nil => exact h
  | cons r rest ih =>
    simp only [Machine.serveLane]
    split
    · split
      exacts [h.serveRecord r, ih (h.serveRecord r)]
    · exact ih h

/-! #### Frames -/

section
variable {s : State} (h : s.TripConsistent)
include h

theorem State.TripConsistent.latchIf (c : Bool) (f : Flag) : (s.latchIf c f).TripConsistent :=
  tripConsistent_of_trip h (State.latchIf_trip ..)

/-- A capture moves the trip record through the break lines that it judges. -/
theorem State.TripConsistent.capture (late : Bool) (number : BitVec 32) (cells : List Cell) (time : Nat) :
    (s.capture late number cells time).TripConsistent := by
  obtain ⟨ks, hacted⟩ := judged_acted s
  exact hacted.tripConsistent (tripConsistent_of_trip h (applyPending_trip s))

theorem State.TripConsistent.arrival (number : BitVec 32) (cells : List Cell) (time : Nat) :
    (s.arrival number cells time).TripConsistent := by
  cases hv : s.sup.verdict s.svc.active.comm s.engine.flight.isSome number time with
  | anchoring => rw [State.arrival, hv]; exact (h.latchIf _ _).capture _ _ _ _
  | capture => rw [State.arrival, hv]; exact (h.latchIf _ _).capture _ _ _ _
  | early => rw [arrival_early hv]; exact h
  | duplicate => rw [arrival_duplicate hv]; exact h
  | overrun => rw [arrival_overrun hv]; exact h

theorem State.TripConsistent.forward (f : EthFrame) : (s.forward f).TripConsistent :=
  tripConsistent_of_trip h (State.forward_trip ..)

theorem State.TripConsistent.process (f : LineFrame) (time : Nat) : (s.process f time).TripConsistent := by
  cases hkind : f.kind with
  | cycle =>
    rw [process_cycle s f time hkind]
    exact ((h.arrival _ _ _).serveLane _).forward _
  | service =>
    rw [process_service s f time hkind]
    exact (h.serveLane _).forward _

theorem State.TripConsistent.receive (frame : EthFrame) (time : Nat) : (s.receive frame time).TripConsistent := by
  have hfcs : s.countFcs.TripConsistent := h
  have hmalformed : s.countMalformed.TripConsistent := h
  unfold State.receive
  split_ifs
  · exact hfcs.forward frame
  · exact h.forward frame
  · split
    exacts [hmalformed.forward frame, h.process _ time]

end

/-! ### What a command makes of the tables and of the track -/

/-- All that a frame can make of the tables and of the track: they stand, or a computation begins, which may make
commissioning tables active (R7, R26). -/
inductive FrameMove (s t : State) : Prop
  | kept (hactive : t.svc.active = s.svc.active) (hengine : t.engine = s.engine)
  | begun (c : Computation) (hidle : s.engine.flight = none) (hstage : c.stage = .speed)
      (htrack : t.engine.track = s.engine.track) (hflight : t.engine.flight = some c)
      (hcomm : c.activated = false → t.svc.active.comm = s.svc.active.comm)

/-- What comes before and after, and leaves the tables and the engine, makes no difference. -/
theorem FrameMove.between {s u v t : State} (h : FrameMove u v) (hu : u.svc.active = s.svc.active)
    (hengineu : u.engine = s.engine) (ht : t.svc.active = v.svc.active) (henginet : t.engine = v.engine) :
    FrameMove s t := by
  cases h with
  | kept hactive hengine => exact .kept (ht.trans (hactive.trans hu)) (henginet.trans (hengine.trans hengineu))
  | begun c hidle hstage htrack hflight hcomm =>
    refine .begun c (hengineu ▸ hidle) hstage ?_ (henginet ▸ hflight) fun hno => ?_
    · rw [henginet, htrack, hengineu]
    · rw [ht, hcomm hno, hu]

/-- An arrival is captured only where no computation is in flight (R16 to R20). -/
theorem verdict_captures_idle {p : Supervisor} {c : Commissioning} {inFlight : Bool} {n : BitVec 32} {time : Nat}
    (h : (p.verdict c inFlight n time).captures = true) : inFlight = false := by
  cases inFlight with
  | false => rfl
  | true =>
    simp only [Supervisor.verdict, ↓reduceIte] at h
    split_ifs at h <;> cases h

section
variable (s : State) (number : BitVec 32) (cells : List Cell) (time : Nat)

theorem capture_frameMove (late : Bool) (hidle : s.engine.flight = none) :
    FrameMove s (s.capture late number cells time) := by
  refine .begun (.begun number s.svc.pendingSet.comm s.svc.atCapture.node) hidle rfl ?_ ?_ fun hno => ?_
  · rw [capture_engine, applyPending_engine]
  · rw [capture_engine]
  · rw [capture_svc]
    exact if_neg (ne_true_of_eq_false hno)

theorem latched_capture_frameMove (irr late : Bool) (hidle : s.engine.flight = none) :
    FrameMove s ((s.latchIf irr .cycleIrregular).capture late number cells time) :=
  (capture_frameMove (s.latchIf irr .cycleIrregular) number cells time late (by simpa using hidle)).between
    (State.latchIf_svc_active ..) (State.latchIf_engine ..) rfl rfl

theorem arrival_frameMove : FrameMove s (s.arrival number cells time) := by
  have hidle (hcaptures : (s.sup.verdict s.svc.active.comm s.engine.flight.isSome number time).captures = true) :
      s.engine.flight = none := by simpa using verdict_captures_idle hcaptures
  cases hv : s.sup.verdict s.svc.active.comm s.engine.flight.isSome number time with
  | anchoring =>
    rw [State.arrival, hv]
    exact latched_capture_frameMove s number cells time _ _ (hidle (by rw [hv]; rfl))
  | capture =>
    rw [State.arrival, hv]
    exact latched_capture_frameMove s number cells time _ _ (hidle (by rw [hv]; rfl))
  | early => rw [arrival_early hv]; exact .kept rfl rfl
  | duplicate => rw [arrival_duplicate hv]; exact .kept rfl rfl
  | overrun => rw [arrival_overrun hv]; exact .kept rfl rfl

theorem receive_frameMove (frame : EthFrame) : FrameMove s (s.receive frame time) := by
  have hforward (u : State) (hactive : u.svc.active = s.svc.active) (hengine : u.engine = s.engine) :
      FrameMove s (u.forward frame) := .kept (by simpa using hactive) (by simpa using hengine)
  unfold State.receive
  split_ifs
  · exact hforward s.countFcs rfl rfl
  · exact hforward s rfl rfl
  · split
    · exact hforward s.countMalformed rfl rfl
    · next f _ =>
      cases hkind : f.kind with
      | cycle =>
        obtain ⟨hactive, -, hengine, -⟩ := process_cycle_keeps s f time hkind
        exact (arrival_frameMove s f.number f.cells time).between rfl rfl hactive hengine
      | service =>
        obtain ⟨hkeeps, hactive⟩ := serviceKeeps_serveLane f.records s
        rw [process_service s f time hkind]
        exact .kept (by simpa using hactive) ((State.forward_engine ..).trans (hkeeps .engine (by decide)))

end

/-- A stage other than the first and the fifth hands the computation on: whether its capture activated tables stands,
and so does whether it is past its fifth stage. -/
def Computation.Passes (c next : Computation) : Prop :=
  next.activated = c.activated ∧ c.stage ≠ .speed
    ∧ ((next.stage = .chill ∨ next.stage = .report) ↔ (c.stage = .chill ∨ c.stage = .report))

/-- All that one command can make of the tables and of what the spacing of the track reads. -/
inductive TrackMove (s t : State) : Prop
  | frame (h : FrameMove s t)
  | reset (h : t.engine = .reset)
  | loaded (hload : s.svc.node = .loading) (h : t.engine = s.engine)
  | speedStage (c : Computation) (hflight : s.engine.flight = some c) (hstage : c.stage = .speed)
      (hactive : t.svc.active = s.svc.active) (h : t.engine = (takeSpeedStage c s).engine)
  | passed (c next : Computation) (hflight : s.engine.flight = some c) (hnext : t.engine.flight = some next)
      (hpasses : c.Passes next) (hactive : t.svc.active = s.svc.active) (htrack : t.engine.track = s.engine.track)
      (hspeed : t.engine.speed = s.engine.speed)
  | trackStage (c : Computation) (hflight : s.engine.flight = some c) (hstage : c.stage = .track)
      (hactive : t.svc.active = s.svc.active) (h : t.engine = (takeTrackStage c s).engine)
  | publication (c : Computation) (hflight : s.engine.flight = some c) (hstage : c.stage = .report)
      (hactive : t.svc.active = s.svc.active) (h : t.engine = (takePublication c s).engine)

/-! #### The spacing through a move -/

theorem flushDue_iff {s : State} {c : Computation} (h : s.engine.flight = some c) :
    s.FlushDue ↔ c.activated = true ∧ ¬ (c.stage = .chill ∨ c.stage = .report) := by
  simp [State.FlushDue, h]

theorem not_flushDue_idle {s : State} (h : s.engine.flight = none) : ¬ s.FlushDue := by
  simp [State.FlushDue, h]

theorem trackSpaced_of_reset {t : State} (h : t.engine = .reset) : t.TrackSpaced := by
  rw [trackSpaced_iff, h]
  exact ⟨fun _ => rfl, by decide, nofun, fun _ => wellSpaced_of_empty _ rfl rfl⟩

/-- Stage 1 forms v at most vmax (R31, R32). -/
theorem validatedSpeed_le (m : Commissioning) (sample : Sample) (r : SpeedRec) :
    validatedSpeed m sample r ≤ m.vmax := by
  have hclamp (x : Int) : (clamp x 0 m.vmax).toNat ≤ m.vmax := by
    rw [clamp_zero]
    omega
  cases sample with
  | valid w => exact hclamp w
  | invalid | absent =>
    rw [validatedSpeed]
    split
    exacts [Nat.zero_le _, hclamp _]

section
variable {s t : State} (h : s.TrackSpaced)
include h

theorem FrameMove.trackSpaced (hmove : FrameMove s t) : t.TrackSpaced := by
  rw [trackSpaced_iff] at h ⊢
  obtain ⟨hempty, hresidue, hspeed, hspaced⟩ := h
  cases hmove with
  | kept hactive hengine =>
    unfold State.FlushDue at hspaced ⊢
    rw [hactive, hengine]
    exact ⟨hempty, hresidue, hspeed, hspaced⟩
  | begun c hidle hstage htrack hflight hcomm =>
    rw [htrack, hflight]
    refine ⟨hempty, hresidue, fun c' hc' hnot => ?_, fun hno => ?_⟩
    · obtain rfl := Option.some.inj hc'
      exact absurd hstage hnot
    · have hsame : c.activated = false := by simpa [flushDue_iff hflight, hstage] using hno
      rw [hcomm hsame]
      exact hspaced (not_flushDue_idle hidle)

/-- Stage 5 flushes what an activation leaves, and keeps the spacing otherwise. -/
theorem trackStage_trackSpaced {c : Computation} (haccepted : s.svc.active.comm.Accepted) (hrange : s.TrackInRange)
    (hflight : s.engine.flight = some c) (hstage : c.stage = .track) (hactive : t.svc.active = s.svc.active)
    (ht : t.engine = (takeTrackStage c s).engine) : t.TrackSpaced := by
  obtain ⟨hempty, hresidue, hspeed, hspaced⟩ := (trackSpaced_iff s).1 h
  have htrack : t.engine.track = (s.trackResult c).track := by rw [ht]; rfl
  have hv : s.engine.speed.v ≤ s.svc.active.comm.vmax := hspeed c hflight (by rw [hstage]; decide)
  rw [trackSpaced_iff, htrack, hactive]
  have hresult : ((s.trackResult c).track.anchored = false → (s.trackResult c).track.records = [])
      ∧ (s.trackResult c).track.WellSpaced s.svc.active.comm := by
    by_cases hflush : s.tripFlush = true ∨ c.configFlush = true
    · rw [trackResult_flush hflush]
      exact ⟨fun _ => rfl, wellSpaced_of_empty _ rfl rfl⟩
    · have hnone : ¬ c.activated = true := fun hyes => hflush (.inr ((configFlush_iff c).2 (.inr hyes)))
      rw [not_or, Bool.not_eq_true, Bool.not_eq_true] at hflush
      obtain ⟨n, hresult, hadmits⟩ := runResult_eq s
      rw [trackResult_run hflush.1 hflush.2, hresult]
      exact State.RunsSpaced.ranResult_wellSpaced
        { accepted := haccepted
          full := hrange.1
          empty := hempty
          residue := hresidue
          speed := hv
          spaced := hspaced fun hdue => hnone ((flushDue_iff hflight).1 hdue).1
          admits := hadmits }
  obtain ⟨-, hleft, -⟩ := trackResult_inRange c hrange
  refine ⟨hresult.1, hleft, fun _ _ _ => ?_, fun _ => hresult.2⟩
  rw [ht]
  exact hv

/-- The spacing of the track through one command. -/
theorem TrackMove.trackSpaced (hmove : TrackMove s t) (haccepted : s.svc.active.comm.Accepted)
    (hload : s.LoadingReset) (hrange : s.TrackInRange) : t.TrackSpaced := by
  obtain ⟨hempty, hresidue, hspeed, hspaced⟩ := (trackSpaced_iff s).1 h
  cases hmove with
  | frame hmove => exact hmove.trackSpaced h
  | reset ht => exact trackSpaced_of_reset ht
  | loaded hnode ht =>
    obtain ⟨-, hengine, -⟩ := hload hnode
    exact trackSpaced_of_reset (ht.trans hengine)
  | speedStage c hflight hstage hactive ht =>
    have hdue : t.FlushDue ↔ s.FlushDue := by
      rw [flushDue_iff hflight, flushDue_iff (c := { c with stage := .dryer }) (by rw [ht, takeSpeedStage_engine])]
      simp [hstage]
    rw [trackSpaced_iff, hdue, hactive, ht, takeSpeedStage_engine]
    exact ⟨hempty, hresidue, fun _ _ _ => validatedSpeed_le .., hspaced⟩
  | passed c next hflight hnext hpasses hactive htrack hspeed' =>
    obtain ⟨hactivated, hstarted, hpast⟩ := hpasses
    have hdue : t.FlushDue ↔ s.FlushDue := by
      rw [flushDue_iff hflight, flushDue_iff hnext, hactivated, hpast]
    rw [trackSpaced_iff, hdue, hactive, htrack, hspeed']
    exact ⟨hempty, hresidue, fun _ _ _ => hspeed c hflight hstarted, hspaced⟩
  | trackStage c hflight hstage hactive ht =>
    exact trackStage_trackSpaced h haccepted hrange hflight hstage hactive ht
  | publication c hflight hstage hactive ht =>
    have hidle : t.engine.flight = none := by rw [ht]; rfl
    have hdone : ¬ s.FlushDue := by simp [flushDue_iff hflight, hstage]
    rw [trackSpaced_iff, hidle, hactive, ht]
    exact ⟨hempty, hresidue, nofun, fun _ => hspaced hdone⟩

end

/-! ### Every command -/

/-- What a command makes of the trip record and of the track. -/
structure SoundMove (s t : State) : Prop where
  trip : s.TripConsistent → t.TripConsistent
  track : TrackMove s t

section
variable {s : State}

/-- A command that leaves the tables and the engine. -/
theorem SoundMove.kept {t : State} (htrip : s.TripConsistent → t.TripConsistent) (hactive : t.svc.active = s.svc.active)
    (hengine : t.engine = s.engine) : SoundMove s t := ⟨htrip, .frame (.kept hactive hengine)⟩

theorem SoundMove.refl : SoundMove s s := .kept id rfl rfl

theorem soundMove_of_reset {t : State} (htrip : t.trip = .reset) (hengine : t.engine = .reset) : SoundMove s t :=
  ⟨fun _ => tripConsistent_of_reset htrip, .reset hengine⟩

/-- What a command does only under a condition. -/
theorem SoundMove.ite {p : Prop} [Decidable p] {t : State} (h : p → SoundMove s t) :
    SoundMove s (if p then t else s) := by
  split
  exacts [h ‹p›, .refl]

/-- What a stage does where it is the next one of the computation in flight. -/
theorem SoundMove.atStage {stage : Stage} {f : Computation → State}
    (h : ∀ c, s.engine.flight = some c → c.stage = stage → SoundMove s (f c)) : SoundMove s (s.atStage stage f) := by
  rcases s.atStage_spec stage f with heq | ⟨c, hflight, hstage, heq⟩ <;> rw [heq]
  exacts [.refl, h c hflight hstage]

section
variable {c : Computation} (hflight : s.engine.flight = some c)
include hflight

theorem soundMove_speedStage (hstage : c.stage = .speed) : SoundMove s (takeSpeedStage c s) where
  trip h := tripConsistent_of_trip h (takeSpeedStage_changesOnly c s .trip (by decide))
  track := .speedStage c hflight hstage (by simp [takeSpeedStage]) rfl

theorem soundMove_dryerStep (hstage : c.stage = .dryer) (time : Nat) (permit : Bool) :
    SoundMove s (takeDryerStep c permit (s.advanceTo time)) where
  trip h := h.dryerStep c time permit
  track := by
    have hengine := dryerStepped_engine s c time permit
    exact .passed c _ hflight (congrArg Engine.flight hengine) ⟨rfl, by simp [hstage], by simp [hstage]⟩
      (by rw [dryerStepped_svc]) (by rw [hengine]) (by rw [hengine])

theorem soundMove_zoneStage (hstage : c.stage = .zones) (time : Nat) :
    SoundMove s (takeZoneStage c (s.advanceTo time)) where
  trip h := (h.advanceTo time).zoneStage c
  track := by
    have hengine := zoneStaged_engine s c time
    exact .passed c _ hflight (congrArg Engine.flight hengine) ⟨rfl, by simp [hstage], by simp [hstage]⟩
      (by rw [zoneStaged_svc]) (by rw [hengine]; rfl) (by rw [hengine]; rfl)

theorem soundMove_exhaustStage (hstage : c.stage = .exhaust) (time : Nat) :
    SoundMove s (takeExhaustStage c (s.advanceTo time)) where
  trip h := (h.advanceTo time).exhaustStage c
  track := by
    have hengine := exhaustStaged_engine s c time
    exact .passed c _ hflight (congrArg Engine.flight hengine) ⟨rfl, by simp [hstage], by simp [hstage]⟩
      (by rw [exhaustStaged_svc]) (by rw [hengine]; rfl) (by rw [hengine]; rfl)

/-- The read of stage 5 clears the flush mark (R104). -/
theorem soundMove_trackStage (hstage : c.stage = .track) : SoundMove s (takeTrackStage c s) where
  trip h := consistent_of_terms h rfl
  track := .trackStage c hflight hstage rfl rfl

theorem soundMove_chillStage (hstage : c.stage = .chill) : SoundMove s (takeChillStage c s) where
  trip h := tripConsistent_of_trip h (State.latchIf_trip ..)
  track := by
    have hengine := chillStaged_engine s c
    exact .passed c _ hflight (congrArg Engine.flight hengine) ⟨rfl, by simp [hstage], by simp [hstage]⟩
      (by simp [takeChillStage]) (by rw [hengine]; rfl) (by rw [hengine]; rfl)

theorem soundMove_publication (hstage : c.stage = .report) : SoundMove s (takePublication c s) where
  trip h := h
  track := .publication c hflight hstage rfl rfl

end

variable (s)

theorem soundMove_dryerStepOf (row : Transition) (permit : Bool) (time : Nat) :
    SoundMove s (dryerStepOf row permit time s) :=
  .atStage fun _ hflight hstage => .ite fun _ => soundMove_dryerStep hflight hstage time permit

theorem soundMove_frameArrival (port : Port) (time : Nat) (frame : EthFrame) :
    ∃ t, exec (.frameArrival port time frame) s = .next t ∧ SoundMove s t := by
  refine ⟨_, rfl, ?_⟩
  cases port with
  | ringOut => exact .kept (·.advanceTo time) (by simp) (by simp)
  | ringIn =>
    dsimp only
    split_ifs
    · exact .refl
    · exact .kept (·.forward frame) (by simp) (by simp)
    · exact ⟨fun h => (h.advanceTo time).receive frame time,
        .frame ((receive_frameMove (s.advanceTo time) time frame).between (by simp) (by simp) rfl rfl)⟩

theorem takeLevel_active (line : Fin 4) : (s.takeLevel line).svc.active = s.svc.active := by
  by_cases huntaken : s.untaken line
  · exact (linesActed_takeLevel s line huntaken).active
  · rw [takeLevel_taken huntaken]

theorem soundMove_takeLevel (line : Fin 4) (time : Nat) : SoundMove s ((s.advanceTo time).takeLevel line) :=
  .kept (fun h => (h.advanceTo time).takeLevel line) ((takeLevel_active _ line).trans (by simp))
    ((takeLevel_engine _ line).trans (s.advanceTo_engine time))

theorem lineChanged_active (line : Fin 4) (high : Bool) (time : Nat) :
    (s.lineChanged line high time).svc.active = s.svc.active := by
  have hchanged : ((s.advanceTo time).changeLevel line high).svc.active = s.svc.active :=
    congrArg (·.active) (s.advanceTo_svc time)
  unfold State.lineChanged
  dsimp only
  split_ifs
  exacts [rfl, rfl, (takeLevel_active _ line).trans hchanged, hchanged]

theorem request_active (k : RequestKind) (r : Request) : (s.request (serve k r s)).svc.active = s.svc.active := by
  unfold State.request
  split
  · rfl
  · exact (serviceKeeps_serve k r s).2

theorem soundMove_request (k : RequestKind) (r : Request) : SoundMove s (s.request (serve k r s)) :=
  .kept (·.request k r) (request_active s k r) (request_engine s k r)

/-- The one case split over the commands: what each makes of the trip record and of the track. -/
theorem exec_soundMove (i : Instr) : ∃ t, exec i s = .next t ∧ SoundMove s t := by
  cases i with
  | powerOn => exact ⟨_, rfl, soundMove_of_reset rfl rfl⟩
  | localReset cut => exact ⟨_, rfl, soundMove_of_reset rfl rfl⟩
  | localResetRelease =>
    refine ⟨_, rfl, ?_⟩
    split
    exacts [.refl, .kept id rfl rfl]
  | lineResetTakesEffect => exact ⟨_, rfl, .ite fun _ => soundMove_of_reset rfl rfl⟩
  | loadEnd =>
    exact ⟨_, rfl, .ite fun hload => ⟨(·.takeLoadEnd), .loaded hload.1 (takeLoadEnd_engine s)⟩⟩
  | portLinkUp port => exact ⟨_, rfl, .kept id rfl rfl⟩
  | portLinkDown port cut =>
    have hcut := cutFrame_changesOnly s port cut
    have hsvc : _ = s.svc := hcut .svc (by decide)
    exact ⟨_, rfl, .kept (tripConsistent_of_trip · (hcut .trip (by decide))) (congrArg (·.active) hsvc)
      (hcut .engine (by decide))⟩
  | frameArrival port time frame => exact soundMove_frameArrival s port time frame
  | warnExpiry time =>
    exact ⟨_, exec_warnExpiry time s, .ite fun _ => .kept (·.advanceTo time) (by simp [takeWarnExpiry])
      (s.advanceTo_engine time)⟩
  | lossExpiry time =>
    refine ⟨_, exec_lossExpiry time s, .ite fun _ => .kept (fun h => ?_) (by simp [takeLossExpiry])
      (by simp [takeLossExpiry])⟩
    refine State.TripConsistent.tripArrives ?_ .link
    exact h.advanceTo time
  | purgeExpiry time =>
    exact ⟨_, exec_purgeExpiry time s, .ite fun _ => .kept (fun h => (h.advanceTo time).purgeExpires) (by simp)
      (s.advanceTo_engine time)⟩
  | speedStage => exact ⟨_, rfl, .atStage fun c hflight hstage => soundMove_speedStage hflight hstage⟩
  | speedHoldRunOut =>
    exact ⟨_, rfl, .atStage fun c hflight hstage => .ite fun _ => soundMove_speedStage hflight hstage⟩
  | dryerStep time permit =>
    exact ⟨_, rfl, .atStage fun c hflight hstage => soundMove_dryerStep hflight hstage time permit⟩
  | permitTimerReached time => exact ⟨_, rfl, soundMove_dryerStepOf s ..⟩
  | settleTimerReached time => exact ⟨_, rfl, soundMove_dryerStepOf s ..⟩
  | runConfirmReached time => exact ⟨_, rfl, soundMove_dryerStepOf s ..⟩
  | holdDelayReached time => exact ⟨_, rfl, soundMove_dryerStepOf s ..⟩
  | holdLimitReached time => exact ⟨_, rfl, soundMove_dryerStepOf s ..⟩
  | zoneStage time =>
    exact ⟨_, rfl, .atStage fun c hflight hstage => soundMove_zoneStage hflight hstage time⟩
  | zoneSensorHoldRunOut zone time =>
    exact ⟨_, rfl, .atStage fun c hflight hstage => .ite fun _ => soundMove_zoneStage hflight hstage time⟩
  | exhaustStage time =>
    exact ⟨_, rfl, .atStage fun c hflight hstage => soundMove_exhaustStage hflight hstage time⟩
  | lelHoldRunOut time =>
    exact ⟨_, rfl, .atStage fun c hflight hstage => .ite fun _ => soundMove_exhaustStage hflight hstage time⟩
  | trackStage => exact ⟨_, rfl, .atStage fun c hflight hstage => soundMove_trackStage hflight hstage⟩
  | chillStage => exact ⟨_, rfl, .atStage fun c hflight hstage => soundMove_chillStage hflight hstage⟩
  | chillSensorHoldRunOut =>
    exact ⟨_, rfl, .atStage fun c hflight hstage => .ite fun _ => soundMove_chillStage hflight hstage⟩
  | publication => exact ⟨_, rfl, .atStage fun c hflight hstage => soundMove_publication hflight hstage⟩
  | breakLineLevelChange line high time =>
    exact ⟨_, rfl, .kept (·.lineChanged line high time) (lineChanged_active s line high time)
      (lineChanged_engine s line high time)⟩
  | breakLineLevelTaken line time =>
    refine ⟨_, exec_breakLineLevelTaken line time s, ?_⟩
    split
    exacts [.refl, .ite fun _ => soundMove_takeLevel s line time]
  | storeCompletion written =>
    refine ⟨_, rfl, ?_⟩
    split
    · exact .refl
    · cases written <;> exact .kept id rfl rfl
  | read r => exact ⟨_, rfl, soundMove_request s .read r⟩
  | write r => exact ⟨_, rfl, soundMove_request s .write r⟩
  | commit r => exact ⟨_, rfl, soundMove_request s .commit r⟩
  | discard r => exact ⟨_, rfl, soundMove_request s .discard r⟩
  | enterConfig r => exact ⟨_, rfl, soundMove_request s .enterConfig r⟩
  | leaveConfig r => exact ⟨_, rfl, soundMove_request s .leaveConfig r⟩
  | store r => exact ⟨_, rfl, soundMove_request s .store r⟩
  | clearLatched r => exact ⟨_, rfl, soundMove_request s .clearLatched r⟩
  | clearCauses r => exact ⟨_, rfl, soundMove_request s .clearCauses r⟩
  | clearCounters r => exact ⟨_, rfl, soundMove_request s .clearCounters r⟩
  | tripReset r => exact ⟨_, rfl, soundMove_request s .tripReset r⟩
  | testTrip r time =>
    exact ⟨_, rfl, .kept (fun h => (h.advanceTo time).request .testTrip r)
      ((request_active _ .testTrip r).trans (by simp))
      ((request_engine _ .testTrip r).trans (s.advanceTo_engine time))⟩
  | lineReset r => exact ⟨_, rfl, soundMove_request s .lineReset r⟩

end

/-- A step idles on an empty queue, and otherwise moves the part as the command at its front does. -/
theorem step_soundMove {s t : State} (hstep : step s = .next t) :
    t = s ∨ ∃ rest, SoundMove { s with pending := rest } t := by
  rw [step] at hstep
  split at hstep
  · exact .inl (Host.Outcome.next.inj hstep).symm
  · next i rest _ =>
    obtain ⟨u, hexec, hmove⟩ := exec_soundMove { s with pending := rest } i
    obtain rfl := Host.Outcome.next.inj (hexec.symm.trans hstep)
    exact .inr ⟨rest, hmove⟩

/-- Settles O55: the trip record and the spacing of the track by `SoundMove`, the ranges of the track by
`EngineMove`. -/
theorem tripAndTrackStayConsistent : Obligations.TripAndTrackStayConsistent := by
  intro s t hstep
  refine ⟨fun htrip => ?_, fun hrange => ?_, fun hactive hload hrange hspaced => ?_⟩
  · rcases step_soundMove hstep with rfl | ⟨rest, hmove⟩
    exacts [htrip, hmove.trip htrip]
  · rcases step_engineMove hstep with rfl | ⟨rest, hmove⟩
    exacts [hrange, hmove.trackInRange hrange]
  · rcases step_soundMove hstep with rfl | ⟨rest, hmove⟩
    exacts [hspaced,
      hmove.track.trackSpaced (s := { s with pending := rest }) hspaced hactive.1 hload hrange]

end Sys2Proof.Machine
end

section
/-!
SUPPORT. Proofs about the latched flags: what a present condition reads, how every command latches it as it comes about
(R174, Table 11.4), and the findings of zones that are not active.
-/
namespace Sys2Proof.Machine

/-! ### What a present condition reads (Table 11.4) -/

/-- Beside the engine a present condition reads LINK_WARN, the latch, the levels taken, the active tables and the store. -/
theorem presentOf_congr {s t : State} (hengine : t.engine = s.engine) (hwarn : t.sup.linkWarn = s.sup.linkWarn)
    (hlatch : t.trip.latch = s.trip.latch) (htaken : ∀ k, (t.trip.filter k).taken = (s.trip.filter k).taken)
    (hactive : t.svc.active.comm = s.svc.active.comm) (hwriting : t.svc.writing = s.svc.writing) (hnv : t.nv = s.nv)
    (f : Flag) : t.presentOf f = s.presentOf f := by
  have hline (k : Nat) : t.lineActive k = s.lineActive k := by rw [State.lineActive, hactive, htaken]; rfl
  cases f <;> simp only [State.presentOf, hengine, hwarn, hlatch, hactive, hwriting, hnv, hline]

/-- Latching reads no condition, and a new condition only its own flag. -/
theorem presentOf_latchIf (b : Bool) (g : Flag) (s : State) (f : Flag) : (s.latchIf b g).presentOf f = s.presentOf f :=
  presentOf_congr (by simp) (by simp) (by simp) (by simp) (by simp) (by simp) (by simp) f

theorem presentOf_tripArrives {f : Flag} (hf : f ≠ .trip) (c : Cause) (s : State) :
    (s.tripArrives c).presentOf f = s.presentOf f := by
  have htaken (k : Nat) : ((s.tripArrives c).trip.filter k).taken = (s.trip.filter k).taken := by
    rw [TripUnit.filter, State.tripArrives_filters]; rfl
  have hline (k : Nat) : (s.tripArrives c).lineActive k = s.lineActive k := by
    rw [State.lineActive, State.tripArrives_svc, htaken]; rfl
  cases f with
  | trip => exact absurd rfl hf
  | _ => simp [State.presentOf, hline]

theorem presentOf_advanceTo (s : State) (time : Nat) (f : Flag) : (s.advanceTo time).presentOf f = s.presentOf f := by
  refine presentOf_congr (by simp) ?_ (s.advanceTo_latch time) (s.advanceTo_taken time) (by simp) (by simp) (by simp) f
  rcases s.advanceTo_spec time with h | h <;> rw [h]
  rfl

/-! ### A condition is latched as it comes about (R174) -/

/-- From `s` to `t` every condition that has come about is latched, and no flag is cleared while its condition lasts. -/
def State.Latches (s t : State) : Prop :=
  ∀ f, t.presentOf f = true → hasFlag t.svc.latched f = true
    ∨ (s.presentOf f = true ∧ (hasFlag s.svc.latched f = true → hasFlag t.svc.latched f = true))

section
variable {s t u : State}

theorem State.Latches.trans (hst : s.Latches t) (htu : t.Latches u) : s.Latches u := by
  intro f hf
  rcases htu f hf with hlatched | ⟨hpresent, hkept⟩
  · exact .inl hlatched
  · rcases hst f hpresent with hlatched | ⟨hbefore, hheld⟩
    exacts [.inl (hkept hlatched), .inr ⟨hbefore, hkept ∘ hheld⟩]

/-- Where no flag is cleared, the conditions that have come about are left to look at. -/
theorem latches_of_held (hheld : ∀ f, hasFlag s.svc.latched f = true → hasFlag t.svc.latched f = true)
    (hnew : ∀ f, t.presentOf f = true → s.presentOf f = true ∨ hasFlag t.svc.latched f = true) : s.Latches t :=
  fun f hf => (hnew f hf).symm.imp_right fun hbefore => ⟨hbefore, hheld f⟩

/-- Where neither a condition nor a flag changes. -/
theorem latches_of_same (hpresent : ∀ f, t.presentOf f = s.presentOf f) (hlatched : t.svc.latched = s.svc.latched) :
    s.Latches t :=
  latches_of_held (fun _ h => hlatched ▸ h) fun f hf => .inl (hpresent f ▸ hf)

theorem State.Latches.refl (s : State) : s.Latches s := latches_of_same (fun _ => rfl) rfl

/-- The invariant of R174 through a command that leaves LOADING alone. -/
theorem State.Latches.presentLatched (h : s.Latches t) (hnode : t.svc.node ≠ .loading → s.svc.node ≠ .loading)
    (hs : s.PresentLatched) : t.PresentLatched := by
  intro hrun f hf
  rcases h f hf with hlatched | ⟨hbefore, hheld⟩
  exacts [hlatched, hheld (hs (hnode hrun) f hbefore)]

end

/-! #### The operations that latch -/

theorem latches_latchIf (b : Bool) (f : Flag) (s : State) : s.Latches (s.latchIf b f) :=
  latches_of_held (fun g hg => (latchIf_hasFlag b f g s).2 (.inl hg)) fun g hg =>
    .inl ((presentOf_latchIf b f s g).symm.trans hg)

theorem latches_tripArrives (c : Cause) (s : State) : s.Latches (s.tripArrives c) := by
  have hflag (g : Flag) := hasFlag_or_mask s.svc.latched .trip g
  refine latches_of_held (fun g hg => ?_) fun g hg => ?_
  · rw [State.tripArrives_svc]; exact (hflag g).2 (.inl hg)
  · by_cases htrip : g = .trip
    · right; rw [State.tripArrives_svc]; exact (hflag g).2 (.inr htrip)
    · left; rwa [presentOf_tripArrives htrip] at hg

theorem latches_tripIf (b : Bool) (c : Cause) (s : State) : s.Latches (s.tripIf b c) := by
  rcases s.tripIf_spec b c with ⟨-, h⟩ | ⟨-, h⟩ <;> rw [h]
  exacts [.refl s, latches_tripArrives c s]

theorem latches_advanceTo (s : State) (time : Nat) : s.Latches (s.advanceTo time) :=
  latches_of_same (presentOf_advanceTo s time) (by simp)

/-! #### The stages -/

/-- A stage that latches the flag of its finding where it finds it: of what it writes into the engine, that finding alone
is read by a condition. -/
theorem latches_found {s : State} {e : Engine} {f : Flag} {found : Bool}
    (hother : ∀ g, g ≠ f → ({ s with engine := e } : State).presentOf g = s.presentOf g)
    (hfound : ({ s with engine := e } : State).presentOf f = true → found = true ∨ s.presentOf f = true) :
    s.Latches (({ s with engine := e } : State).latchIf found f) := by
  refine latches_of_held (fun g hg => (latchIf_hasFlag ..).2 (.inl hg)) fun g hg => ?_
  rw [presentOf_latchIf] at hg
  by_cases hgf : g = f
  · subst hgf
    exact (hfound hg).symm.imp_right fun h => (latchIf_hasFlag ..).2 (.inr ⟨rfl, h⟩)
  · exact .inl (hother g hgf ▸ hg)

section
variable (s : State) (c : Computation)

/-- Stage 1: a run-out hold is latched, and one that has run out before was (R32). -/
theorem latches_speedStage : s.Latches (takeSpeedStage c s) := by
  refine latches_found (fun g hg => by cases g <;> trivial) fun hinvalid => ?_
  have hnext : (s.engine.speed.next s.svc.active.comm s.engine.samples).invalid = true := hinvalid
  simp only [SpeedRec.next] at hnext
  split at hnext
  · exact absurd hnext Bool.false_ne_true
  · exact Bool.or_eq_true_iff.1 hnext

/-- Stage 3: the zones that count are among those whose findings are latched (R76, R83). -/
theorem latches_zoneStage : s.Latches (takeZoneStage c s) := by
  have hany (p : ZoneRec → Bool)
      (h : (s.svc.active.comm.activeZones.any fun z => p ((s.zoneEngine c).zone z)) = true) :
      (s.zonesNext c).any p = true := by
    obtain ⟨z, hz, hp⟩ := List.any_eq_true.1 h
    have hlt : z < (s.zonesNext c).length := by
      simpa [State.zonesNext] using ((mem_activeZones _ z).1 hz).1
    have hzone : (s.zoneEngine c).zone z = (s.zonesNext c)[z] := List.getD_eq_getElem _ _ hlt
    exact List.any_eq_true.2 ⟨_, List.getElem_mem hlt, hzone ▸ hp⟩
  rw [takeZoneStage_eq]
  refine State.Latches.trans ?_ (latches_tripIf _ _ _)
  have hheld (f : Flag) (h : hasFlag s.svc.latched f = true) : hasFlag (s.zonesFound c).svc.latched f = true := by
    rw [State.zonesFound, latchIf_hasFlag, latchIf_hasFlag]; exact .inl (.inl h)
  refine latches_of_held hheld fun f hf => ?_
  rw [State.zonesFound, presentOf_latchIf, presentOf_latchIf] at hf
  rw [State.zonesFound, latchIf_hasFlag, latchIf_hasFlag]
  cases f with
  | overtemp => exact .inr (.inl (.inr ⟨rfl, hany _ hf⟩))
  | zoneFault => exact .inr (.inr ⟨rfl, hany _ hf⟩)
  | _ => exact .inl hf

/-- Stage 4 latches LEL_ALARM with its finding (R95). -/
theorem latches_exhaustStage : s.Latches (takeExhaustStage c s) := by
  rw [takeExhaustStage_eq]
  refine State.Latches.trans (latches_found (fun g hg => by cases g <;> trivial) fun h => ?_) (latches_tripIf _ _ _)
  exact .inl h

/-- Stage 5 and stage 7 write nothing that a condition reads. -/
theorem latches_trackStage : s.Latches (takeTrackStage c s) := latches_of_same (fun f => by cases f <;> rfl) rfl

theorem latches_publication : s.Latches (takePublication c s) := latches_of_same (fun f => by cases f <;> rfl) rfl

/-- Stage 6 latches CHILL_FAULT with its findings (R130, R133). -/
theorem latches_chillStage : s.Latches (takeChillStage c s) :=
  latches_found (fun g hg => by cases g <;> trivial) fun h => .inl h

/-- Flags latched change no condition. -/
theorem FlagsLatched.presentOf {s t : State} (h : FlagsLatched s t) (f : Flag) : t.presentOf f = s.presentOf f := by
  have htrip : t.trip = s.trip := h.frame .trip (by decide)
  have hsup : t.sup = s.sup := h.frame .sup (by decide)
  exact presentOf_congr (h.frame .engine (by decide)) (by rw [hsup]) (by rw [htrip]) (fun k => by rw [htrip])
    (by rw [h.svc]) (by rw [h.svc]) (h.frame .nv (by decide)) f

/-- Stage 2: the trip of BREAK_CELL, then MODE_INVALID with its finding, and RECIPE_MISSING with its own (R44, R62). -/
theorem latches_dryerStep (permit : Bool) (time : Nat) : s.Latches (takeDryerStep c permit (s.advanceTo time)) := by
  have hbreak : s.Latches (takeBreakCell (s.advanceTo time)) :=
    (latches_advanceTo s time).trans
      ((latches_of_same (fun f => by cases f <;> rfl) rfl).trans (latches_tripIf _ _ _))
  have hflags := dryerStepped_hasFlag s c time permit
  refine hbreak.trans (latches_of_held (fun f hf => ?_) fun f hf => ?_)
  · rw [takeBreakCell_hasFlag, State.advanceTo_svc, State.advanceTo_engine] at hf
    exact (hflags f).2 (.inl (.inl (.inl hf)))
  · have hdryer := dryerStepped_dryer s c time permit
    cases f with
    | recipeMissing => exact .inr ((hflags _).2 (.inr ⟨rfl, hdryer ▸ hf⟩))
    | modeInvalid =>
      have hfinding : (s.dryerAfter permit).modeFinding = true := hdryer ▸ hf
      rw [dryerAfter_modeFinding] at hfinding
      split at hfinding
      · exact .inr ((hflags _).2 (.inl (.inl (.inr ⟨rfl, hfinding⟩))))
      · left
        simpa [State.presentOf, takeBreakCell] using hfinding
    | _ => rw [(takeDryerStep_flagsLatched c permit _).presentOf] at hf; exact .inl hf

end

/-! #### Break lines: a level taken that makes its line active is a qualifying change (R152 to R154) -/

theorem latches_lineAct (k : Fin 4) (s : State) : s.Latches (s.lineAct k) := by
  unfold State.lineAct
  split
  exacts [latches_tripArrives _ s, latches_latchIf true .notice s]

theorem presentOf_notice (s : State) :
    s.presentOf .notice = true ↔
      ∃ k : Fin 4, s.lineActive k.val = true ∧ s.svc.active.comm.lineAction k.val = .notice := by
  simp [State.presentOf, Fin.exists_iff, and_left_comm]

/-- What a take leaves of another line, and of its own where the record has that line's filter. -/
theorem take_taken (t : TripUnit) (k j : Nat) (level : Bool) :
    ((t.take k level).filter j).taken = (t.filter j).taken ∨ (k = j ∧ ((t.take k level).filter j).taken = some level) := by
  simp only [TripUnit.take, TripUnit.filter, List.getD_eq_getElem?_getD, List.getElem?_set]
  split
  · next hjk =>
    subst hjk
    split
    · exact .inr ⟨rfl, rfl⟩
    · next hout => simp [hout]
  · exact .inl rfl

theorem LineMode.qualifies_of_active {mode : LineMode} {level : Bool} (h : mode.active (some level) = true)
    (old : Option Bool) : mode.qualifies old level = true := by
  cases mode <;> cases level <;> trivial

theorem latches_takeLevel (k : Fin 4) (s : State) : s.Latches (s.takeLevel k) := by
  by_cases huntaken : s.untaken k
  · let u : State := { s with trip := s.trip.take k.val (s.pins.line k.val) }
    have hother (f : Flag) (hf : f ≠ .notice) : u.presentOf f = s.presentOf f := by cases f <;> trivial
    have hmine : u.presentOf .notice = true → s.presentOf .notice = true
        ∨ (s.qualifiesNow k = true ∧ u.svc.active.comm.lineAction k.val = .notice) := by
      rw [presentOf_notice, presentOf_notice]
      rintro ⟨j, hactive, hnotice⟩
      rcases take_taken s.trip k.val j.val (s.pins.line k.val) with hsame | ⟨hjk, hlevel⟩
      · exact .inl ⟨j, by rwa [State.lineActive, hsame] at hactive, hnotice⟩
      · obtain rfl := Fin.ext hjk
        rw [State.lineActive, hlevel] at hactive
        exact .inr ⟨LineMode.qualifies_of_active hactive _, hnotice⟩
    rw [takeLevel_of_untaken s k huntaken]
    split
    · intro f hf
      rcases latches_lineAct k u f hf with hlatched | ⟨hpresent, hheld⟩
      · exact .inl hlatched
      · by_cases hf : f = .notice
        · subst hf
          refine (hmine hpresent).symm.imp (fun h => ?_) fun hbefore => ⟨hbefore, hheld⟩
          exact ((linesActed_lineAct k u).latched _).2 (.inr (.inr ⟨rfl, k, by simp, h.2⟩))
        · exact .inr ⟨hother f hf ▸ hpresent, hheld⟩
    · next hquiet =>
      refine latches_of_held (fun _ h => h) fun f hf => .inl ?_
      by_cases hf : f = .notice
      · subst hf
        exact (hmine ‹_›).resolve_right fun h => hquiet h.1
      · exact hother f hf ▸ ‹_›
  · rw [takeLevel_taken huntaken]; exact .refl s

theorem latches_changeLevel (k : Fin 4) (high : Bool) (s : State) : s.Latches (s.changeLevel k high) := by
  refine latches_of_same (presentOf_congr rfl rfl rfl (fun j => ?_) rfl rfl rfl) rfl
  simp only [State.changeLevel, TripUnit.filter, List.getD_eq_getElem?_getD, List.getElem?_set]
  split
  · next hjk => subst hjk; split <;> simp [*]
  · rfl

theorem latches_lineChanged (line : Fin 4) (high : Bool) (time : Nat) (s : State) :
    s.Latches (s.lineChanged line high time) := by
  have hchanged := (latches_advanceTo s time).trans (latches_changeLevel line high _)
  unfold State.lineChanged
  dsimp only
  split_ifs
  · exact .refl s
  · exact latches_of_same (fun f => by cases f <;> rfl) rfl
  · exact hchanged.trans (latches_takeLevel line _)
  · exact hchanged

theorem latches_inSomeOrder {act : Fin 4 → State → State} (hact : ∀ k s, State.Latches s (act k s)) (s : State)
    (lines : List (Fin 4)) (hnodup : lines.Nodup) : s.Latches (s.inSomeOrder lines act) := by
  have hfold (ks : List (Fin 4)) (u : State) : u.Latches (ks.foldl (fun s' k => act k s') u) := by
    induction ks generalizing u with
    | nil => exact .refl u
    | cons k ks ih => exact (hact k u).trans (ih _)
  obtain ⟨order, n, -, heq⟩ := inSomeOrder_eq_foldl s lines act hnodup
  rw [heq]
  exact (latches_of_same (fun f => by cases f <;> rfl) rfl).trans (hfold order _)

/-- Every line that is active when the lines are judged acts, so that NOTICE is latched where it is its action (R154). -/
theorem latches_judgeLines (s : State) : s.Latches s.judgeLines :=
  (latches_inSomeOrder latches_lineAct s _ (activatedLines_nodup s)).trans
    (latches_inSomeOrder latches_takeLevel _ _ (dueLines_nodup _))

theorem judgeLines_hasFlag_notice (s : State) (h : s.presentOf .notice = true) :
    hasFlag s.judgeLines.svc.latched .notice = true := by
  obtain ⟨k, hactive, hnotice⟩ := (presentOf_notice s).1 h
  obtain ⟨ks, hacted, hmem, -⟩ := judgeLines_acted s
  exact (hacted.latched _).2 (.inr (.inr ⟨rfl, k, (hmem k).2 (.inl hactive), hnotice⟩))

/-! #### Expiries and the store -/

theorem latches_warnExpiry (s : State) : s.Latches (takeWarnExpiry s) := by
  have hflag (f : Flag) := hasFlag_or_mask s.svc.latched .linkWarn f
  refine latches_of_held (fun f hf => (hflag f).2 (.inl hf)) fun f hf => ?_
  by_cases hwarn : f = .linkWarn
  · exact .inr ((hflag f).2 (.inr hwarn))
  · left; cases f <;> trivial

theorem latches_lossExpiry (s : State) : s.Latches (takeLossExpiry s) :=
  State.Latches.trans (latches_of_same (fun f => by cases f <;> rfl) rfl) (latches_tripArrives _ _)

/-- A failed write latches STORE_INVALID, whose condition then holds (R172). -/
theorem latches_endStore (s : State) (image : Commissioning) (written : Bool) : s.Latches (s.endStore image written) := by
  cases written with
  | true => exact latches_of_held (fun _ h => h) fun f hf => .inl (by cases f <;> trivial)
  | false =>
    have hflag (f : Flag) := hasFlag_or_mask (s.svc.latched ||| Flag.storeFail.mask) .storeInvalid f
    refine latches_of_held (fun f hf => (hflag f).2 (.inl ((hasFlag_or_mask ..).2 (.inl hf)))) fun f hf => ?_
    by_cases hinvalid : f = .storeInvalid
    · exact .inr ((hflag f).2 (.inr hinvalid))
    · left; cases f <;> trivial

/-! #### Service requests -/

section
variable {s : State} {r : Request}

theorem latches_checked {k : RequestKind} {f : State × Reply} (hf : s.Latches f.1) : s.Latches (s.checked k r f).1 := by
  unfold State.checked
  split
  exacts [.refl s, hf]

theorem latches_onTable {f : TableId → State × Reply} (hf : ∀ t, s.Latches (f t).1) :
    s.Latches (onTable r s f).1 := by
  unfold Machine.onTable
  split
  exacts [.refl s, hf _]

/-- What a request changes of the Service Handler beside its active tables, its flags and the image being written. -/
theorem latches_svc {svc : Handler} (hactive : svc.active = s.svc.active) (hwriting : svc.writing = s.svc.writing)
    (hlatched : svc.latched = s.svc.latched) : s.Latches { s with svc := svc } :=
  latches_of_same (presentOf_congr rfl rfl rfl (fun _ => rfl) (by rw [hactive]) hwriting rfl) hlatched

/-- CLEAR_LATCHED keeps the flags whose present condition holds (R174). -/
theorem latches_clearLatched (w : Word) : s.Latches (s.setLatched (s.latchedAfter w)) := by
  intro f hf
  have hpresent : s.presentOf f = true := by cases f <;> exact hf
  have hset : s.presentSet.getLsbD f.bit = true := flagNumber_eq_bit f ▸ (presentSet_getLsbD s f).2 hpresent
  refine .inr ⟨hpresent, fun hlatched => ?_⟩
  rw [hasFlag] at hlatched
  simp [hasFlag, State.latchedAfter, hlatched, hset, f.bit_lt]

theorem latches_serve (k : RequestKind) : s.Latches (serve k r s).1 := by
  cases k with
  | read => exact latches_checked (latches_onTable fun t => by split <;> exact .refl s)
  | write =>
    refine latches_checked (latches_onTable fun t => ?_)
    split
    · exact .refl s
    · split
      exacts [latches_of_same (fun f => by cases f <;> rfl) rfl, latches_svc rfl rfl rfl]
  | commit =>
    refine latches_checked (latches_onTable fun t => ?_)
    split
    · exact .refl s
    · split
      exacts [.refl s, latches_svc rfl rfl rfl]
  | discard =>
    refine latches_checked (latches_onTable fun t => ?_)
    split
    exacts [.refl s, latches_svc rfl rfl rfl]
  | enterConfig =>
    refine latches_checked ?_
    split_ifs
    · exact .refl s
    · exact .refl s
    · exact .refl s
    · exact latches_of_same (fun f => by cases f <;> rfl) rfl
  | leaveConfig =>
    refine latches_checked ?_
    split_ifs
    · exact .refl s
    · exact .refl s
    · exact .refl s
    · split
      exacts [.refl s, latches_svc rfl rfl rfl]
  | store =>
    refine latches_checked ?_
    split_ifs
    · exact .refl s
    · exact .refl s
    · refine latches_of_held (fun _ h => h) fun f hf => .inl ?_
      cases f with
      | storeInvalid => exact absurd hf (by simp [State.presentOf])
      | _ => exact hf
  | clearLatched => exact latches_checked (latches_clearLatched _)
  | clearCauses => exact latches_checked (latches_svc rfl rfl rfl)
  | clearCounters => exact latches_checked (latches_svc rfl rfl rfl)
  | tripReset =>
    refine latches_checked ?_
    split_ifs
    · exact .refl s
    · exact .refl s
    · exact .refl s
    · exact latches_of_held (fun _ h => h) fun f hf => .inl (by cases f <;> trivial)
  | testTrip => refine latches_checked ?_; split_ifs; exacts [.refl s, latches_tripArrives _ s]
  | lineReset => refine latches_checked ?_; split_ifs; exacts [.refl s, latches_svc rfl rfl rfl, .refl s]

theorem latches_serveRecord (rec : Record) : s.Latches (serveRecord rec s).1 := by
  unfold Machine.serveRecord
  split
  exacts [.refl s, latches_serve _]

end

theorem latches_serveLane (records : List Record) (s : State) : s.Latches (serveLane records s).1 := by
  induction records generalizing s with
  | nil => exact .refl s
  | cons r rest ih =>
    simp only [Machine.serveLane]
    split
    · split
      exacts [latches_serveRecord r, (latches_serveRecord r).trans (ih _)]
    · exact ih s

/-! #### Frames -/

theorem latches_forward (s : State) (f : EthFrame) : s.Latches (s.forward f) :=
  latches_of_same (presentOf_congr (by simp) (by simp) (by simp) (by simp) (by simp) (by simp) (by simp)) (by simp)

theorem presentOf_applyPending (s : State) (f : Flag) :
    s.applyPending.presentOf f = ({ s with svc := s.svc.atCapture } : State).presentOf f := by
  unfold State.applyPending
  dsimp only
  split <;> cases f <;> rfl

/-- Of the conditions under the tables that a capture makes active: a zone that comes into use has no finding (R68), and
the break lines are judged where INPUT_LINES may be new (R154). -/
theorem presentOf_atCapture {s : State} (hidle : s.engine.flight = none) (hzones : s.InactiveZonesClear) {f : Flag}
    (hf : ({ s with svc := s.svc.atCapture } : State).presentOf f = true) :
    s.presentOf f = true ∨ (f = .notice ∧ s.svc.pendingSet.comm = true) := by
  have hactive (z : Nat) (hz : z < 6) (p : ZoneRec → Bool) (hp : p (s.engine.zone z) = true)
      (hfinding : (s.engine.zone z).faulted = false ∧ (s.engine.zone z).overTemp = false → p (s.engine.zone z) = false) :
      (s.svc.active.comm.activeZones.any fun z => p (s.engine.zone z)) = true := by
    refine List.any_eq_true.2 ⟨z, (mem_activeZones _ z).2 ⟨hz, not_le.1 fun hout => ?_⟩, hp⟩
    rcases hzones z hz (decide_eq_false hout.not_gt) with hclear | ⟨c, hflight, -⟩
    · exact absurd hp (by simp [hfinding hclear])
    · simp [hidle] at hflight
  cases f with
  | zoneFault =>
    obtain ⟨z, hz, hp⟩ := List.any_eq_true.1 hf
    exact .inl (hactive z ((mem_activeZones _ z).1 hz).1 _ hp fun h => h.1)
  | overtemp =>
    obtain ⟨z, hz, hp⟩ := List.any_eq_true.1 hf
    exact .inl (hactive z ((mem_activeZones _ z).1 hz).1 _ hp fun h => h.2)
  | notice =>
    cases hcomm : s.svc.pendingSet.comm with
    | true => exact .inr ⟨rfl, rfl⟩
    | false =>
      have hsame : s.svc.atCapture.active.comm = s.svc.active.comm := if_neg (ne_true_of_eq_false hcomm)
      rw [presentOf_congr (s := s) (t := { s with svc := s.svc.atCapture }) rfl rfl rfl (fun _ => rfl) hsame rfl rfl] at hf
      exact .inl hf
  | _ => exact .inl hf

section
variable {s : State} (number : BitVec 32) (cells : List Cell) (time : Nat)

theorem latches_capture (hidle : s.engine.flight = none) (hzones : s.InactiveZonesClear) (late : Bool) :
    s.Latches (s.capture late number cells time) := by
  intro f hf
  have hjudged : s.judged.presentOf f = true := by
    rw [capture_eq] at hf
    cases f <;> trivial
  have hjudge : s.applyPending.Latches s.judged := by
    unfold State.judged
    split
    exacts [latches_judgeLines _, .refl _]
  have hsame : s.applyPending.svc.latched = s.svc.latched := by rw [applyPending_svc]; rfl
  rcases hjudge f hjudged with hlatched | ⟨hpending, hheld⟩
  · exact .inl hlatched
  · rw [hsame] at hheld
    rcases presentOf_atCapture hidle hzones (presentOf_applyPending s f ▸ hpending) with hbefore | ⟨rfl, hcomm⟩
    · exact .inr ⟨hbefore, hheld⟩
    · have hlines : s.judged = s.applyPending.judgeLines := if_pos hcomm
      have hnotice := judgeLines_hasFlag_notice _ hpending
      rw [← hlines] at hnotice
      exact .inl hnotice

theorem latches_arrival (hzones : s.InactiveZonesClear) : s.Latches (s.arrival number cells time) := by
  have hcapture (irr late : Bool)
      (hcaptures : (s.sup.verdict s.svc.active.comm s.engine.flight.isSome number time).captures = true) :
      s.Latches ((s.latchIf irr .cycleIrregular).capture late number cells time) := by
    have hidle : s.engine.flight = none := by simpa using verdict_captures_idle hcaptures
    exact (latches_latchIf irr _ s).trans
      (latches_capture number cells time (by simpa using hidle) (by simpa [State.InactiveZonesClear] using hzones) late)
  cases hv : s.sup.verdict s.svc.active.comm s.engine.flight.isSome number time with
  | anchoring => rw [State.arrival, hv]; exact hcapture _ _ (by rw [hv]; rfl)
  | capture => rw [State.arrival, hv]; exact hcapture _ _ (by rw [hv]; rfl)
  | early => rw [arrival_early hv]; exact latches_latchIf true _ s
  | duplicate => rw [arrival_duplicate hv]; exact .refl s
  | overrun => rw [arrival_overrun hv]; exact latches_latchIf true _ s

theorem latches_receive (hzones : s.InactiveZonesClear) (frame : EthFrame) : s.Latches (s.receive frame time) := by
  have hcount (u : State) (hpresent : ∀ f, u.presentOf f = s.presentOf f) (hlatched : u.svc.latched = s.svc.latched) :
      s.Latches (u.forward frame) := (latches_of_same hpresent hlatched).trans (latches_forward u frame)
  unfold State.receive
  split_ifs
  · exact hcount s.countFcs (fun f => by cases f <;> rfl) rfl
  · exact latches_forward s frame
  · split
    · exact hcount s.countMalformed (fun f => by cases f <;> rfl) rfl
    · next f _ =>
      cases hkind : f.kind with
      | cycle =>
        rw [process_cycle s f time hkind]
        exact ((latches_arrival _ _ time hzones).trans (latches_serveLane _ _)).trans (latches_forward _ _)
      | service =>
        rw [process_service s f time hkind]
        exact (latches_serveLane _ _).trans (latches_forward _ _)

end

/-! ### A flag stays latched while its condition holds (R174): every command -/

theorem reset_zone (z : Nat) : Engine.reset.zone z = .reset := by
  simp only [Engine.zone, Engine.reset, List.getD_eq_getElem?_getD, List.getElem?_replicate]
  split <;> rfl

/-- A record whose filters have just begun has taken no level (R151), so that no line is active. -/
theorem active_none (mode : LineMode) : mode.active none = false := by cases mode <;> rfl

theorem startFilters_taken (t : TripUnit) (k : Nat) : (t.startFilters.filter k).taken = none := by
  simp only [TripUnit.filter, TripUnit.startFilters, List.getD_eq_getElem?_getD, List.getElem?_replicate]
  split <;> rfl

theorem takeLoadEnd_hasFlag (s : State) (f : Flag) :
    hasFlag (takeLoadEnd s).svc.latched f = true ↔
      (hasFlag s.svc.latched f = true ∨ (f = .storeInvalid ∧ s.nv.marker = false)) ∨ f = .trip := by
  simp only [takeLoadEnd, State.formLines_svc, State.tripArrives_svc, hasFlag_or_mask, latchIf_hasFlag, Handler.loaded,
    Bool.not_eq_true']

/-- The end of load leaves no condition but TRIP's, and STORE_INVALID's without a valid marker, and latches both. -/
theorem takeLoadEnd_presentLatched {s : State} (hload : s.svc.node = .loading) (hreset : s.LoadingReset) :
    (takeLoadEnd s).PresentLatched := by
  obtain ⟨hsup, hengine, -⟩ := hreset hload
  intro _ f hf
  have hengine' : (takeLoadEnd s).engine = .reset := (takeLoadEnd_engine s).trans hengine
  have hsup' : (takeLoadEnd s).sup = .reset := by simp [takeLoadEnd, hsup]
  have hmarker : (takeLoadEnd s).nv = s.nv := by simp [takeLoadEnd]
  have hline (k : Nat) : (takeLoadEnd s).lineActive k = false := by
    rw [State.lineActive, takeLoadEnd, State.formLines_trip, startFilters_taken, active_none]
  rw [takeLoadEnd_hasFlag]
  cases f with
  | trip => exact .inr rfl
  | storeInvalid =>
    rw [State.presentOf, hmarker, Bool.and_eq_true, Bool.not_eq_true'] at hf
    exact .inl (.inr ⟨rfl, hf.1⟩)
  | zoneFault | overtemp => simp [State.presentOf, hengine', reset_zone, ZoneRec.reset] at hf
  | notice => simp [State.presentOf, hline] at hf
  | _ => exact absurd hf (by simp only [State.presentOf, hsup', hengine']; decide)

theorem presentLatched_of_loading {t : State} (h : t.svc.node = .loading) : t.PresentLatched := fun hrun =>
  absurd h hrun

section
variable {s : State} (h : s.PresentLatched)
include h

/-- A command that leaves the node state. -/
theorem State.PresentLatched.kept {t : State} (hlatches : s.Latches t) (hnode : t.svc.node = s.svc.node) :
    t.PresentLatched := hlatches.presentLatched (fun hrun => hnode ▸ hrun) h

theorem State.PresentLatched.atStage {stage : Stage} {f : Computation → State}
    (hf : ∀ c, (f c).PresentLatched) : (s.atStage stage f).PresentLatched := by
  rcases s.atStage_spec stage f with heq | ⟨c, -, -, heq⟩ <;> rw [heq]
  exacts [h, hf c]

theorem State.PresentLatched.ite {p : Prop} [Decidable p] {t : State} (ht : p → t.PresentLatched) :
    (if p then t else s).PresentLatched := by
  split
  exacts [ht ‹p›, h]

theorem State.PresentLatched.advanceTo (time : Nat) : (s.advanceTo time).PresentLatched :=
  h.kept (latches_advanceTo s time) (by simp)

theorem State.PresentLatched.speedStage (c : Computation) : (takeSpeedStage c s).PresentLatched :=
  h.kept (latches_speedStage s c) (by simp [takeSpeedStage])

theorem State.PresentLatched.dryerStep (c : Computation) (permit : Bool) (time : Nat) :
    (takeDryerStep c permit (s.advanceTo time)).PresentLatched :=
  h.kept (latches_dryerStep s c permit time) ((takeDryerStep_node ..).trans (by simp))

theorem State.PresentLatched.dryerStepOf (row : Transition) (permit : Bool) (time : Nat) :
    (dryerStepOf row permit time s).PresentLatched :=
  h.atStage fun c => h.ite fun _ => h.dryerStep c permit time

theorem State.PresentLatched.zoneStage (c : Computation) : (takeZoneStage c s).PresentLatched :=
  h.kept (latches_zoneStage s c) (by simp [takeZoneStage])

theorem State.PresentLatched.exhaustStage (c : Computation) : (takeExhaustStage c s).PresentLatched :=
  h.kept (latches_exhaustStage s c) (by simp [takeExhaustStage])

theorem State.PresentLatched.chillStage (c : Computation) : (takeChillStage c s).PresentLatched :=
  h.kept (latches_chillStage s c) (by simp [takeChillStage])

/-- A request as a command of its own: none is served while LOADING (R161). -/
theorem State.PresentLatched.request (k : RequestKind) (r : Request) :
    (s.request (serve k r s)).PresentLatched := by
  unfold State.request
  split
  · exact h
  · next hrun =>
    have hreply : (serve k r s).1.Latches { (serve k r s).1 with lastReply := some (serve k r s).2 } :=
      latches_of_same (fun f => by cases f <;> rfl) rfl
    exact ((latches_serve k).trans hreply).presentLatched (fun _ => hrun) h

theorem State.PresentLatched.frameArrival (hzones : s.InactiveZonesClear) (port : Port) (time : Nat)
    (frame : EthFrame) : ∃ t, exec (.frameArrival port time frame) s = .next t ∧ t.PresentLatched := by
  refine ⟨_, rfl, ?_⟩
  cases port with
  | ringOut => exact h.advanceTo time
  | ringIn =>
    dsimp only
    split_ifs with _ hload
    · exact h
    · exact h.kept (latches_forward s frame) (by simp)
    · have hzones' : (s.advanceTo time).InactiveZonesClear := by simpa [State.InactiveZonesClear] using hzones
      exact ((latches_advanceTo s time).trans (latches_receive time hzones' frame)).presentLatched (fun _ => hload) h

end

/-- What changes nothing but the ports and the frames sent. -/
theorem State.PresentLatched.of_changesOnly {s t : State} (h : s.PresentLatched)
    (hframe : ChangesOnly s t [.port, .pins, .sent]) : t.PresentLatched := by
  have hsup : t.sup = s.sup := hframe .sup (by decide)
  have htrip : t.trip = s.trip := hframe .trip (by decide)
  have hsvc : t.svc = s.svc := hframe .svc (by decide)
  have hpresent := presentOf_congr (hframe .engine (by decide)) (by rw [hsup]) (by rw [htrip]) (fun _ => by rw [htrip])
    (by rw [hsvc]) (by rw [hsvc]) (hframe .nv (by decide))
  exact h.kept (latches_of_same hpresent (by rw [hsvc])) (by rw [hsvc])

theorem exec_keeps_presentLatched (c : Instr) (s : State) (hreset : s.LoadingReset) (hzones : s.InactiveZonesClear)
    (h : s.PresentLatched) : ∃ t, exec c s = .next t ∧ t.PresentLatched := by
  cases c with
  | powerOn => exact ⟨_, rfl, presentLatched_of_loading rfl⟩
  | localReset cut => exact ⟨_, rfl, presentLatched_of_loading rfl⟩
  | localResetRelease =>
    refine ⟨_, rfl, ?_⟩
    split
    exacts [h, h.of_changesOnly (setResetN_port_changesOnly s true _)]
  | lineResetTakesEffect => exact ⟨_, rfl, h.ite fun _ => presentLatched_of_loading rfl⟩
  | loadEnd => exact ⟨_, rfl, h.ite fun hload => takeLoadEnd_presentLatched hload.1 hreset⟩
  | portLinkUp port => exact ⟨_, rfl, h.of_changesOnly ((setLink_changesOnly s port true).mono (by simp))⟩
  | portLinkDown port cut =>
    exact ⟨_, rfl, h.of_changesOnly
      ((cutFrame_changesOnly s port cut).trans ((setLink_changesOnly _ port false).mono (by simp)))⟩
  | frameArrival port time frame => exact h.frameArrival hzones port time frame
  | warnExpiry time =>
    exact ⟨_, exec_warnExpiry time s, h.ite fun _ => (h.advanceTo time).kept (latches_warnExpiry _) rfl⟩
  | lossExpiry time =>
    exact ⟨_, exec_lossExpiry time s, h.ite fun _ => (h.advanceTo time).kept (latches_lossExpiry _)
      (by simp [takeLossExpiry])⟩
  | purgeExpiry time =>
    exact ⟨_, exec_purgeExpiry time s, h.ite fun _ => (h.advanceTo time).kept
      (latches_of_same (fun f => by cases f <;> rfl) rfl) rfl⟩
  | speedStage => exact ⟨_, rfl, h.atStage h.speedStage⟩
  | speedHoldRunOut => exact ⟨_, rfl, h.atStage fun c => h.ite fun _ => h.speedStage c⟩
  | dryerStep time permit => exact ⟨_, rfl, h.atStage fun c => h.dryerStep c permit time⟩
  | permitTimerReached time => exact ⟨_, rfl, h.dryerStepOf _ _ time⟩
  | settleTimerReached time => exact ⟨_, rfl, h.dryerStepOf _ _ time⟩
  | runConfirmReached time => exact ⟨_, rfl, h.dryerStepOf _ _ time⟩
  | holdDelayReached time => exact ⟨_, rfl, h.dryerStepOf _ _ time⟩
  | holdLimitReached time => exact ⟨_, rfl, h.dryerStepOf _ _ time⟩
  | zoneStage time => exact ⟨_, rfl, h.atStage (h.advanceTo time).zoneStage⟩
  | zoneSensorHoldRunOut zone time =>
    exact ⟨_, rfl, h.atStage fun c => h.ite fun _ => (h.advanceTo time).zoneStage c⟩
  | exhaustStage time => exact ⟨_, rfl, h.atStage (h.advanceTo time).exhaustStage⟩
  | lelHoldRunOut time => exact ⟨_, rfl, h.atStage fun c => h.ite fun _ => (h.advanceTo time).exhaustStage c⟩
  | trackStage => exact ⟨_, rfl, h.atStage fun c => h.kept (latches_trackStage s c) rfl⟩
  | chillStage => exact ⟨_, rfl, h.atStage h.chillStage⟩
  | chillSensorHoldRunOut => exact ⟨_, rfl, h.atStage fun c => h.ite fun _ => h.chillStage c⟩
  | publication => exact ⟨_, rfl, h.atStage fun c => h.kept (latches_publication s c) rfl⟩
  | breakLineLevelChange line high time =>
    have hloading (hload : s.svc.node = .loading) : (s.lineChanged line high time).svc.node = .loading := by
      unfold State.lineChanged
      split <;> simp [hload]
    exact ⟨_, rfl, (latches_lineChanged line high time s).presentLatched (fun hrun hload => hrun (hloading hload)) h⟩
  | breakLineLevelTaken line time =>
    refine ⟨_, exec_breakLineLevelTaken line time s, ?_⟩
    split
    · exact h
    · next hrun =>
      exact h.ite fun _ =>
        ((latches_advanceTo s time).trans (latches_takeLevel line _)).presentLatched (fun _ => hrun) h
  | storeCompletion written =>
    refine ⟨_, rfl, ?_⟩
    split
    · exact h
    · next image _ => exact h.kept (latches_endStore s image written) (by cases written <;> rfl)
  | read r => exact ⟨_, rfl, h.request .read r⟩
  | write r => exact ⟨_, rfl, h.request .write r⟩
  | commit r => exact ⟨_, rfl, h.request .commit r⟩
  | discard r => exact ⟨_, rfl, h.request .discard r⟩
  | enterConfig r => exact ⟨_, rfl, h.request .enterConfig r⟩
  | leaveConfig r => exact ⟨_, rfl, h.request .leaveConfig r⟩
  | store r => exact ⟨_, rfl, h.request .store r⟩
  | clearLatched r => exact ⟨_, rfl, h.request .clearLatched r⟩
  | clearCauses r => exact ⟨_, rfl, h.request .clearCauses r⟩
  | clearCounters r => exact ⟨_, rfl, h.request .clearCounters r⟩
  | tripReset r => exact ⟨_, rfl, h.request .tripReset r⟩
  | testTrip r time => exact ⟨_, rfl, (h.advanceTo time).request .testTrip r⟩
  | lineReset r => exact ⟨_, rfl, h.request .lineReset r⟩

/-! ### Zones that are not active (R68) -/

section
variable {s t : State}

theorem inactiveZonesClear_of_reset (h : t.engine = .reset) : t.InactiveZonesClear := fun z _ _ => by
  rw [h, reset_zone]
  exact .inl ⟨rfl, rfl⟩

/-- Up to stage 3 of a computation nothing is claimed of them. -/
theorem inactiveZonesClear_of_early {c : Computation} (hflight : t.engine.flight = some c)
    (hstage : c.stage = .speed ∨ c.stage = .dryer ∨ c.stage = .zones) : t.InactiveZonesClear :=
  fun _ _ _ => .inr ⟨c, hflight, hstage⟩

/-- Stage 3 gives a zone that is not active the reset record. -/
theorem inactiveZonesClear_of_zoneStage {c : Computation} (hactive : t.svc.active = s.svc.active)
    (ht : t.engine = s.zoneEngine c) : t.InactiveZonesClear := by
  intro z hz hout
  have hzone : t.engine.zone z = if s.svc.active.comm.zoneActive z then (s.engine.zone z).step (s.zoneInputs c z)
      else .reset := by
    rw [ht]
    exact tabulate_getD _ _ hz
  rw [hactive] at hout
  rw [hzone, if_neg (ne_true_of_eq_false hout)]
  exact .inl ⟨rfl, rfl⟩

section
variable (h : s.InactiveZonesClear)
include h

/-- A command that leaves the tables and the engine. -/
theorem State.InactiveZonesClear.kept (hactive : t.svc.active = s.svc.active) (hengine : t.engine = s.engine) :
    t.InactiveZonesClear := by
  unfold State.InactiveZonesClear
  rwa [hactive, hengine]

/-- Past stage 3 a stage leaves the zones' records. -/
theorem State.InactiveZonesClear.late {c : Computation} (hflight : s.engine.flight = some c)
    (hlate : ¬ (c.stage = .speed ∨ c.stage = .dryer ∨ c.stage = .zones)) (hactive : t.svc.active = s.svc.active)
    (hzones : t.engine.zones = s.engine.zones) : t.InactiveZonesClear := by
  intro z hz hout
  rw [hactive] at hout
  rcases h z hz hout with hclear | ⟨c', hflight', hstage⟩
  · left
    rwa [Engine.zone, hzones]
  · obtain rfl := Option.some.inj (hflight.symm.trans hflight')
    exact absurd hstage hlate

theorem State.InactiveZonesClear.ite {p : Prop} [Decidable p] (ht : p → t.InactiveZonesClear) :
    (if p then t else s).InactiveZonesClear := by
  split
  exacts [ht ‹p›, h]

theorem State.InactiveZonesClear.atStage {stage : Stage} {f : Computation → State}
    (hf : ∀ c, s.engine.flight = some c → c.stage = stage → (f c).InactiveZonesClear) :
    (s.atStage stage f).InactiveZonesClear := by
  rcases s.atStage_spec stage f with heq | ⟨c, hflight, hstage, heq⟩ <;> rw [heq]
  exacts [h, hf c hflight hstage]

theorem State.InactiveZonesClear.frameMove (hmove : FrameMove s t) : t.InactiveZonesClear := by
  cases hmove with
  | kept hactive hengine => exact h.kept hactive hengine
  | begun c _ hstage _ hflight => exact inactiveZonesClear_of_early hflight (.inl hstage)

theorem State.InactiveZonesClear.request (k : RequestKind) (r : Request) :
    (s.request (serve k r s)).InactiveZonesClear := h.kept (request_active s k r) (request_engine s k r)

end

theorem inactiveZonesClear_speedStage (s : State) (c : Computation) : (takeSpeedStage c s).InactiveZonesClear :=
  inactiveZonesClear_of_early (c := { c with stage := .dryer }) (by rw [takeSpeedStage_engine]) (by simp)

theorem inactiveZonesClear_dryerStep (s : State) (c : Computation) (permit : Bool) (time : Nat) :
    (takeDryerStep c permit (s.advanceTo time)).InactiveZonesClear :=
  inactiveZonesClear_of_early (congrArg Engine.flight (dryerStepped_engine s c time permit)) (by simp)

theorem inactiveZonesClear_zoneStage (s : State) (c : Computation) (time : Nat) :
    (takeZoneStage c (s.advanceTo time)).InactiveZonesClear :=
  inactiveZonesClear_of_zoneStage (by rw [zoneStaged_svc]) (zoneStaged_engine s c time)

section
variable (h : s.InactiveZonesClear)
include h

theorem State.InactiveZonesClear.exhaustStage {c : Computation} (hflight : s.engine.flight = some c)
    (hstage : c.stage = .exhaust) (time : Nat) : (takeExhaustStage c (s.advanceTo time)).InactiveZonesClear :=
  h.late hflight (by simp [hstage]) (by rw [exhaustStaged_svc]) (by rw [exhaustStaged_engine]; rfl)

theorem State.InactiveZonesClear.chillStage {c : Computation} (hflight : s.engine.flight = some c)
    (hstage : c.stage = .chill) : (takeChillStage c s).InactiveZonesClear :=
  h.late hflight (by simp [hstage]) (by simp [takeChillStage]) (by rw [chillStaged_engine]; rfl)

theorem State.InactiveZonesClear.dryerStepOf (row : Transition) (permit : Bool) (time : Nat) :
    (dryerStepOf row permit time s).InactiveZonesClear :=
  h.atStage fun c _ _ => h.ite fun _ => inactiveZonesClear_dryerStep s c permit time

theorem State.InactiveZonesClear.advanceTo (time : Nat) : (s.advanceTo time).InactiveZonesClear :=
  h.kept (by simp) (by simp)

theorem State.InactiveZonesClear.frameArrival (port : Port) (time : Nat) (frame : EthFrame) :
    ∃ t, exec (.frameArrival port time frame) s = .next t ∧ t.InactiveZonesClear := by
  refine ⟨_, rfl, ?_⟩
  cases port with
  | ringOut => exact h.advanceTo time
  | ringIn =>
    dsimp only
    split_ifs
    · exact h
    · exact h.kept (by simp) (by simp)
    · exact (h.advanceTo time).frameMove (receive_frameMove ..)

theorem exec_keeps_inactiveZonesClear (i : Instr) (hreset : s.LoadingReset) :
    ∃ t, exec i s = .next t ∧ t.InactiveZonesClear := by
  cases i with
  | powerOn => exact ⟨_, rfl, inactiveZonesClear_of_reset rfl⟩
  | localReset cut => exact ⟨_, rfl, inactiveZonesClear_of_reset rfl⟩
  | localResetRelease =>
    refine ⟨_, rfl, ?_⟩
    split
    exacts [h, h.kept rfl rfl]
  | lineResetTakesEffect => exact ⟨_, rfl, h.ite fun _ => inactiveZonesClear_of_reset rfl⟩
  | loadEnd =>
    exact ⟨_, rfl, h.ite fun hload =>
      inactiveZonesClear_of_reset ((takeLoadEnd_engine s).trans (hreset hload.1).2.1)⟩
  | portLinkUp port => exact ⟨_, rfl, h.kept rfl rfl⟩
  | portLinkDown port cut =>
    have hcut := cutFrame_changesOnly s port cut
    have hsvc : _ = s.svc := hcut .svc (by decide)
    exact ⟨_, rfl, h.kept (congrArg (·.active) hsvc) (hcut .engine (by decide))⟩
  | frameArrival port time frame => exact h.frameArrival port time frame
  | warnExpiry time =>
    exact ⟨_, exec_warnExpiry time s, h.ite fun _ => h.kept (by simp [takeWarnExpiry]) (s.advanceTo_engine time)⟩
  | lossExpiry time =>
    exact ⟨_, exec_lossExpiry time s, h.ite fun _ => h.kept (by simp [takeLossExpiry]) (by simp [takeLossExpiry])⟩
  | purgeExpiry time =>
    exact ⟨_, exec_purgeExpiry time s, h.ite fun _ => h.kept (by simp) (s.advanceTo_engine time)⟩
  | speedStage => exact ⟨_, rfl, h.atStage fun c _ _ => inactiveZonesClear_speedStage s c⟩
  | speedHoldRunOut => exact ⟨_, rfl, h.atStage fun c _ _ => h.ite fun _ => inactiveZonesClear_speedStage s c⟩
  | dryerStep time permit => exact ⟨_, rfl, h.atStage fun c _ _ => inactiveZonesClear_dryerStep s c permit time⟩
  | permitTimerReached time => exact ⟨_, rfl, h.dryerStepOf _ _ time⟩
  | settleTimerReached time => exact ⟨_, rfl, h.dryerStepOf _ _ time⟩
  | runConfirmReached time => exact ⟨_, rfl, h.dryerStepOf _ _ time⟩
  | holdDelayReached time => exact ⟨_, rfl, h.dryerStepOf _ _ time⟩
  | holdLimitReached time => exact ⟨_, rfl, h.dryerStepOf _ _ time⟩
  | zoneStage time => exact ⟨_, rfl, h.atStage fun c _ _ => inactiveZonesClear_zoneStage s c time⟩
  | zoneSensorHoldRunOut zone time =>
    exact ⟨_, rfl, h.atStage fun c _ _ => h.ite fun _ => inactiveZonesClear_zoneStage s c time⟩
  | exhaustStage time => exact ⟨_, rfl, h.atStage fun _ hflight hstage => h.exhaustStage hflight hstage time⟩
  | lelHoldRunOut time =>
    exact ⟨_, rfl, h.atStage fun _ hflight hstage => h.ite fun _ => h.exhaustStage hflight hstage time⟩
  | trackStage => exact ⟨_, rfl, h.atStage fun _ hflight hstage => h.late hflight (by simp [hstage]) rfl rfl⟩
  | chillStage => exact ⟨_, rfl, h.atStage fun _ hflight hstage => h.chillStage hflight hstage⟩
  | chillSensorHoldRunOut =>
    exact ⟨_, rfl, h.atStage fun _ hflight hstage => h.ite fun _ => h.chillStage hflight hstage⟩
  | publication => exact ⟨_, rfl, h.atStage fun _ hflight hstage => h.late hflight (by simp [hstage]) rfl rfl⟩
  | breakLineLevelChange line high time =>
    exact ⟨_, rfl, h.kept (lineChanged_active s line high time) (lineChanged_engine s line high time)⟩
  | breakLineLevelTaken line time =>
    refine ⟨_, exec_breakLineLevelTaken line time s, ?_⟩
    split
    exacts [h, h.ite fun _ => (h.advanceTo time).kept (takeLevel_active _ line) (takeLevel_engine _ line)]
  | storeCompletion written =>
    refine ⟨_, rfl, ?_⟩
    split
    · exact h
    · cases written <;> exact h.kept rfl rfl
  | read r => exact ⟨_, rfl, h.request .read r⟩
  | write r => exact ⟨_, rfl, h.request .write r⟩
  | commit r => exact ⟨_, rfl, h.request .commit r⟩
  | discard r => exact ⟨_, rfl, h.request .discard r⟩
  | enterConfig r => exact ⟨_, rfl, h.request .enterConfig r⟩
  | leaveConfig r => exact ⟨_, rfl, h.request .leaveConfig r⟩
  | store r => exact ⟨_, rfl, h.request .store r⟩
  | clearLatched r => exact ⟨_, rfl, h.request .clearLatched r⟩
  | clearCauses r => exact ⟨_, rfl, h.request .clearCauses r⟩
  | clearCounters r => exact ⟨_, rfl, h.request .clearCounters r⟩
  | tripReset r => exact ⟨_, rfl, h.request .tripReset r⟩
  | testTrip r time => exact ⟨_, rfl, (h.advanceTo time).request .testTrip r⟩
  | lineReset r => exact ⟨_, rfl, h.request .lineReset r⟩

end

end

/-- Settles O59: no command drops a flag whose condition is present, or makes a condition present without latching its
flag (`State.Latches`), and a zone out of use has no finding once stage 3 has passed. -/
theorem presentConditionsStayLatched : Obligations.PresentConditionsStayLatched := by
  intro s t hreset hzones h hstep
  rw [step] at hstep
  split at hstep
  · obtain rfl := Host.Outcome.next.inj hstep
    exact ⟨hzones, h⟩
  · next c rest _ =>
    have hzones' : { s with pending := rest }.InactiveZonesClear := hzones
    have h' : { s with pending := rest }.PresentLatched := fun hrun f hf => h hrun f (by cases f <;> exact hf)
    obtain ⟨u, hu, hclear⟩ := exec_keeps_inactiveZonesClear hzones' c hreset
    obtain ⟨v, hv, hlatched⟩ := exec_keeps_presentLatched c { s with pending := rest } hreset hzones' h'
    obtain rfl := Host.Outcome.next.inj (hu.symm.trans hstep)
    obtain rfl := Host.Outcome.next.inj (hv.symm.trans hstep)
    exact ⟨hclear, hlatched⟩

end Sys2Proof.Machine
end

section
/-!
SUPPORT. Proofs about the service requests, each as a command of its own (assumption 14): the common checks (Table 11.2),
the tables they name, and the judgement of each kind (R166 to R177).
-/
namespace Sys2Proof.Machine

/-! ### A request as a command -/

theorem State.checked_passes (s : State) {k : RequestKind} {r : Request} (h : commonCheck k r = none)
    (f : State × Reply) : s.checked k r f = f := by rw [State.checked, h]

theorem State.checked_fails (s : State) {k : RequestKind} {r : Request} {why : Reason} (h : commonCheck k r = some why)
    (f : State × Reply) : s.checked k r f = (s, .refused why r) := by rw [State.checked, h]

/-- A record that fails a common check is refused with no effect, whatever its kind (R163). -/
theorem serve_fails (s : State) {k : RequestKind} {r : Request} {why : Reason} (h : commonCheck k r = some why) :
    serve k r s = (s, .refused why r) := by
  cases k <;> exact s.checked_fails h _

theorem onTable_named {r : Request} {tb : TableId} (h : TableId.ofCode r.table.toNat = some tb) (s : State)
    (f : TableId → State × Reply) : onTable r s f = f tb := by rw [onTable, h]

/-- What a served request leaves of a part that is not LOADING (R161). -/
theorem next_request {s t : State} {served : State × Reply} {reply : Reply} (hrun : s.svc.node ≠ .loading)
    (h : served = (t, reply)) :
    (.next (s.request served) : Host.Outcome State Fault Refusal) = .next { t with lastReply := some reply } := by
  rw [request_running hrun, h]

/-- A request that fails a common check changes nothing but the reply. -/
theorem next_request_fails {s : State} {r : Request} {k : RequestKind} {why : Reason} (hrun : s.svc.node ≠ .loading)
    (h : commonCheck k r = some why) :
    (.next (s.request (serve k r s)) : Host.Outcome State Fault Refusal) =
      .next { s with lastReply := some ⟨.refused why, 0, r.payload⟩ } :=
  next_request hrun (serve_fails s h)

/-! ### The common checks (R163, R164, Table 11.2) -/

section
variable (c : TableClass)

theorem TableClass.bars_read : c.bars .read = none := by cases c <;> rfl

theorem TableClass.bars_write (h : c ≠ .readOnly) : c.bars .write = none := by
  cases c with
  | readOnly => exact absurd rfl h
  | commissioning | recipe | immediate => rfl

theorem TableClass.bars_commit (h : c ≠ .recipe) : c.bars .commit = some .table := by
  cases c with
  | recipe => exact absurd rfl h
  | commissioning | immediate | readOnly => rfl

theorem TableClass.bars_discard_single (h : c = .immediate ∨ c = .readOnly) : c.bars .discard = some .table := by
  rcases h with rfl | rfl <;> rfl

theorem TableClass.bars_discard (h : c = .commissioning ∨ c = .recipe) : c.bars .discard = none := by
  rcases h with rfl | rfl <;> rfl

end

theorem lengthCheck_fails {r : Request} {length : Nat} (h : r.payload.length ≠ length) :
    lengthCheck r length = some .length := if_neg h

theorem lengthCheck_passes {r : Request} {length : Nat} (h : r.payload.length = length) :
    lengthCheck r length = none := if_pos h

section
variable {r : Request} {k : RequestKind} {length : Nat}

theorem accessCheck_unknown (h : TableId.ofCode r.table.toNat = none) : accessCheck k r = some .table := by
  rw [accessCheck, h]

theorem tableCheck_unknown (h : TableId.ofCode r.table.toNat = none) : tableCheck k r length = some .table := by
  rw [tableCheck, h]

section
variable {tb : TableId} (hnamed : TableId.ofCode r.table.toNat = some tb)
include hnamed

theorem accessCheck_barred {why : Reason} (hbars : tb.cls.bars k = some why) : accessCheck k r = some why := by
  simp only [accessCheck, hnamed, hbars]

theorem tableCheck_barred {why : Reason} (hbars : tb.cls.bars k = some why) : tableCheck k r length = some why := by
  simp only [tableCheck, hnamed, hbars]

variable (hbars : tb.cls.bars k = none)
include hbars

/-- Checks 3 and 4 of a READ or WRITE of a table whose class admits it. -/
theorem accessCheck_admitted :
    accessCheck k r = if countInRange r tb = false then some .range
      else if r.payload.length = r.count.toNat * tb.entryWords then none else some .length := by
  simp only [accessCheck, hnamed, hbars]

/-- Check 4 of a COMMIT or DISCARD of a table whose class admits it. -/
theorem tableCheck_admitted :
    tableCheck k r length = if r.payload.length = length then none else some .length := by
  simp only [tableCheck, hnamed, hbars]

theorem accessCheck_range (h : r.count = 0 ∨ tb.entries < r.index.toNat + r.count.toNat) :
    accessCheck k r = some .range := by
  rw [accessCheck_admitted hnamed hbars, if_pos]
  rcases h with hzero | hpast
  · simp [countInRange, hzero]
  · simp [countInRange, hpast]

variable (hcount : 1 ≤ r.count.toNat) (hentries : r.index.toNat + r.count.toNat ≤ tb.entries)
include hcount hentries

theorem accessCheck_length (h : r.payload.length ≠ r.count.toNat * tb.entryWords) :
    accessCheck k r = some .length := by
  rw [accessCheck_admitted hnamed hbars, if_neg (by simp [countInRange, hcount, hentries]), if_neg h]

theorem accessCheck_passes (h : r.payload.length = r.count.toNat * tb.entryWords) : accessCheck k r = none := by
  rw [accessCheck_admitted hnamed hbars, if_neg (by simp [countInRange, hcount, hentries]), if_pos h]

end

end

theorem TableId.hasCopies_iff (tb : TableId) : tb.hasCopies = true ↔ tb.cls = .commissioning ∨ tb.cls = .recipe := by
  simp [TableId.hasCopies]

/-- READ of a table with copies refuses an option that names neither (R180). -/
theorem serveRead_option {s : State} {r : Request} {tb : TableId} (hcheck : commonCheck .read r = none)
    (hnamed : TableId.ofCode r.table.toNat = some tb) (hcopies : tb.hasCopies = true) (hactive : r.option ≠ 0)
    (hshadow : r.option ≠ 1) : serveRead r s = (s, .refused .range r) := by
  rw [serveRead, s.checked_passes hcheck, onTable_named hnamed, if_pos ⟨hcopies, hactive, hshadow⟩]

/-! ### The service lane, record by record (R162, R163, R177) -/

theorem addressed_iff (s : State) (r : Record) : s.addressed r = true ↔ addressedHere s r := by
  simp [State.addressed, addressedHere, and_assoc]

/-- The thirteen kinds of Table 12.2. -/
theorem RequestKind.ofCode_eq_none (n : Nat) : RequestKind.ofCode n = none ↔ n = 0 ∨ 13 < n := by
  unfold RequestKind.ofCode
  split <;> simp_all
  omega

section
variable {s : State} {r : Record} (rest : List Record)

theorem serveLane_passed (h : ¬ addressedHere s r) :
    serveLane (r :: rest) s = ((serveLane rest s).1, r :: (serveLane rest s).2) := by
  rw [serveLane, if_neg (mt (addressed_iff s r).1 h)]

/-- A record of no kind is refused KIND, and the lane goes on. -/
theorem serveLane_unknown (h : addressedHere s r) (hkind : RequestKind.ofCode r.kind.toNat = none) :
    serveLane (r :: rest) s =
      ((serveLane rest s).1, { r with status := 3, reason := 1, view := 0 } :: (serveLane rest s).2) := by
  have hserved : serveRecord r s = (s, .refused .kind r.request) := by rw [serveRecord, hkind]
  rw [serveLane, if_pos ((addressed_iff s r).2 h), hserved, if_neg (by simp [endsLane, Reply.refused, Reply.plain])]
  rfl

end

/-- Settles O43: each common check in its order (`accessCheck`, `tableCheck`, `lengthCheck`); what fails one is refused as
`serve_fails` says. -/
theorem commonChecksRefuse : Obligations.CommonChecksRefuse := by
  refine ⟨fun s r _ haddressed hkind => ?_, fun s r hrun => ?_⟩
  · refine serveLane_unknown [] haddressed ((RequestKind.ofCode_eq_none _).2 (hkind.imp_left fun h => ?_))
    rw [h]
    rfl
  intro refuses
  have read {why : Reason} (h : accessCheck .read r = some why) : refuses (.read r) why :=
    next_request_fails (k := .read) hrun h
  have write {why : Reason} (h : accessCheck .write r = some why) : refuses (.write r) why :=
    next_request_fails (k := .write) hrun h
  have commit {why : Reason} (h : tableCheck .commit r 2 = some why) : refuses (.commit r) why :=
    next_request_fails (k := .commit) hrun h
  have discard {why : Reason} (h : tableCheck .discard r 0 = some why) : refuses (.discard r) why :=
    next_request_fails (k := .discard) hrun h
  refine ⟨fun hunknown => ?_, fun tb hnamed => ?_, fun hlength => ?_, fun hlength => ?_, fun hpayload => ?_⟩
  · exact ⟨read (accessCheck_unknown hunknown), write (accessCheck_unknown hunknown),
      commit (tableCheck_unknown hunknown), discard (tableCheck_unknown hunknown)⟩
  · have hread := tb.cls.bars_read
    refine ⟨fun hclass => write (accessCheck_barred hnamed (by rw [hclass]; rfl)),
      fun hclass => commit (tableCheck_barred hnamed (tb.cls.bars_commit hclass)),
      fun hclass => discard (tableCheck_barred hnamed (tb.cls.bars_discard_single hclass)), fun hrange => ?_,
      fun hcount hentries hlength => ?_, fun hclass hlength => ?_, fun hclass hlength => ?_,
      fun hcount hentries hlength hclass hactive hshadow => ?_⟩
    · exact ⟨read (accessCheck_range hnamed hread hrange),
        fun hclass => write (accessCheck_range hnamed (tb.cls.bars_write hclass) hrange)⟩
    · exact ⟨read (accessCheck_length hnamed hread hcount hentries hlength),
        fun hclass => write (accessCheck_length hnamed (tb.cls.bars_write hclass) hcount hentries hlength)⟩
    · exact commit ((tableCheck_admitted hnamed (by rw [hclass]; rfl)).trans (if_neg hlength))
    · exact discard ((tableCheck_admitted hnamed (tb.cls.bars_discard hclass)).trans (if_neg (by simpa using hlength)))
    · have hcheck : commonCheck .read r = none := accessCheck_passes hnamed hread hcount hentries hlength
      exact next_request hrun (serveRead_option hcheck hnamed (tb.hasCopies_iff.2 hclass) hactive hshadow)
  · exact next_request_fails (k := .leaveConfig) hrun (lengthCheck_fails hlength)
  · exact next_request_fails (k := .clearLatched) hrun (lengthCheck_fails hlength)
  · have hcheck : lengthCheck r 0 = some .length := lengthCheck_fails (by simpa using hpayload)
    have hlater (time : Nat) : (s.advanceTo time).svc.node ≠ .loading := by rwa [State.advanceTo_svc]
    exact ⟨next_request_fails (k := .enterConfig) hrun hcheck, next_request_fails (k := .store) hrun hcheck,
      next_request_fails (k := .clearCauses) hrun hcheck, next_request_fails (k := .clearCounters) hrun hcheck,
      next_request_fails (k := .tripReset) hrun hcheck, next_request_fails (k := .lineReset) hrun hcheck,
      fun time => next_request_fails (k := .testTrip) (hlater time) hcheck⟩

/-! ### The copies of the tables (R165, Table 12.5) -/

section
variable {α : Type} (old new : List α) (i : Nat)

theorem overlay_length : (overlay old i new).length = old.length := by
  simp only [overlay, List.length_take, List.length_append, List.length_drop]
  omega

variable {old new i}

theorem overlay_getD (h : i + new.length ≤ old.length) (j : Nat) (d : α) :
    (overlay old i new).getD j d = if i ≤ j ∧ j < i + new.length then new.getD (j - i) d else old.getD j d := by
  have htake : (old.take i).length = i := by rw [List.length_take]; omega
  simp only [overlay, List.getD_eq_getElem?_getD, List.getElem?_take, List.getElem?_append, List.getElem?_drop,
    List.length_append, htake]
  by_cases hnew : i ≤ j ∧ j < i + new.length
  · rw [if_pos hnew, if_pos (hnew.2.trans_le h), if_pos hnew.2, if_neg (not_lt.2 hnew.1)]
  · rw [if_neg hnew]
    split_ifs with hlen hj hbefore
    · rfl
    · omega
    · rw [Nat.add_sub_cancel' (by omega)]
    · rw [List.getElem?_eq_none (not_lt.1 hlen)]

end

section
variable (t : Tables) (tb : TableId) (ws : List Word)

/-- The table replaced, where it has copies. -/
theorem words_setWords (h : tb.cls = .commissioning ∨ tb.cls = .recipe) : (t.setWords tb ws).words tb = ws := by
  cases tb with
  | report | status | track | counters | identity => simp [TableId.cls] at h
  | _ => rfl

theorem words_setWords_other {other : TableId} (h : other ≠ tb) : (t.setWords tb ws).words other = t.words other := by
  cases tb <;> cases other <;> trivial

variable {t tb}

theorem words_length (h : t.sized = true) (hclass : tb.cls = .commissioning ∨ tb.cls = .recipe) :
    (t.words tb).length = tb.entries * tb.entryWords := by
  refine of_decide_eq_true (List.all_eq_true.1 h tb ?_)
  cases tb with
  | report | status | track | counters | identity => simp [TableId.cls] at hclass
  | _ => decide

end

/-- What joins the pending set is a recipe table. -/
theorem has_join (p : PendingSet) {tb : TableId} (h : tb.cls = .recipe) (other : TableId) :
    (p.join tb).has other = (decide (other = tb) || p.has other) := by
  cases tb with
  | zoneCurves | exhaustCurve | chillCurves | doseWindows => cases other <;> rfl
  | _ => cases h

/-! ### WRITE and DISCARD (R167) -/

section
variable {s : State} {tb : TableId}

/-- A commissioning table is changed in CONFIG alone. -/
theorem shadowBarred_state (hclass : tb.cls = .commissioning) (hnode : s.svc.node ≠ .config) :
    s.shadowBarred tb = some .state := by
  simp only [State.shadowBarred, hclass, if_pos hnode]

/-- A pending table is not changed. -/
theorem shadowBarred_busy
    (h : (tb.cls = .commissioning ∧ s.svc.node = .config ∧ s.svc.pendingSet.comm = true)
      ∨ (tb.cls = .recipe ∧ s.svc.pendingSet.has tb = true)) : s.shadowBarred tb = some .busy := by
  rcases h with ⟨hclass, hnode, hpending⟩ | ⟨hclass, hpending⟩
  · simp [State.shadowBarred, hclass, hnode, hpending]
  · simp [State.shadowBarred, hclass, hpending]

theorem shadowBarred_none
    (h : (tb.cls = .commissioning ∧ s.svc.node = .config ∧ s.svc.pendingSet.comm = false)
      ∨ (tb.cls = .recipe ∧ s.svc.pendingSet.has tb = false)) : s.shadowBarred tb = none := by
  rcases h with ⟨hclass, hnode, hpending⟩ | ⟨hclass, hpending⟩
  · simp [State.shadowBarred, hclass, hnode, hpending]
  · simp [State.shadowBarred, hclass, hpending]

variable {r : Request} (hnamed : TableId.ofCode r.table.toNat = some tb)
include hnamed

section
variable (hcheck : commonCheck .write r = none)
include hcheck

theorem serveWrite_barred {why : Reason} (h : s.shadowBarred tb = some why) :
    serveWrite r s = (s, .refused why r) := by
  rw [serveWrite, s.checked_passes hcheck, onTable_named hnamed, h]

theorem serveWrite_shadow (h : s.shadowBarred tb = none) (hreport : tb ≠ .report) :
    serveWrite r s = (s.setShadow (s.svc.shadow.written tb r.index.toNat r.payload), .done r) := by
  rw [serveWrite, s.checked_passes hcheck, onTable_named hnamed, h]
  exact if_neg hreport

theorem serveWrite_report (hreport : tb = .report) :
    serveWrite r s = (s.setEnable (r.payload.getD 0 0), .done r) := by
  subst hreport
  rw [serveWrite, s.checked_passes hcheck, onTable_named hnamed]
  rfl

end

section
variable (hcheck : commonCheck .discard r = none)
include hcheck

theorem serveDiscard_barred {why : Reason} (h : s.shadowBarred tb = some why) :
    serveDiscard r s = (s, .refused why r) := by
  rw [serveDiscard, s.checked_passes hcheck, onTable_named hnamed, h]

theorem serveDiscard_shadow (h : s.shadowBarred tb = none) :
    serveDiscard r s = (s.setShadow (s.svc.shadow.setWords tb (s.svc.active.words tb)), .done r) := by
  rw [serveDiscard, s.checked_passes hcheck, onTable_named hnamed, h]

end

end

/-- The copies that may be changed are those of a table that has copies. -/
theorem class_of_editable {s : State} {tb : TableId}
    (h : (tb.cls = .commissioning ∧ s.svc.node = .config ∧ s.svc.pendingSet.comm = false)
      ∨ (tb.cls = .recipe ∧ s.svc.pendingSet.has tb = false)) : tb.cls = .commissioning ∨ tb.cls = .recipe :=
  h.imp And.left And.left

/-- Settles O44: `shadowBarred` gives the refusals, and a shadow changed is `written` or set to the active copy. -/
theorem writeAndDiscardChangeOneShadow : Obligations.WriteAndDiscardChangeOneShadow := by
  refine ⟨fun s r tb hrun hnamed hcount hentries hlength hsized => ?write,
    fun s r tb hrun hnamed hpayload => ?discard⟩
  case write =>
    have hcheck (hclass : tb.cls ≠ .readOnly) : commonCheck .write r = none :=
      accessCheck_passes hnamed (tb.cls.bars_write hclass) hcount hentries hlength
    refine ⟨fun hclass hnode => ?_, fun hbusy => ?_, fun hfree => ?_, fun hreport => ?_⟩
    · exact next_request hrun
        (serveWrite_barred hnamed (hcheck (by simp [hclass])) (shadowBarred_state hclass hnode))
    · have hclass : tb.cls ≠ .readOnly := by rcases hbusy with ⟨hclass, -⟩ | ⟨hclass, -⟩ <;> simp [hclass]
      exact next_request hrun (serveWrite_barred hnamed (hcheck hclass) (shadowBarred_busy hbusy))
    · have hcopies := class_of_editable hfree
      have hclass : tb.cls ≠ .readOnly := by rcases hcopies with hclass | hclass <;> simp [hclass]
      have hreport : tb ≠ .report := by rintro rfl; simp [TableId.cls] at hcopies
      have hwords : (s.svc.shadow.written tb r.index.toNat r.payload).words tb =
          overlay (s.svc.shadow.words tb) (r.index.toNat * tb.entryWords) r.payload := words_setWords _ _ _ hcopies
      have hfits : r.index.toNat * tb.entryWords + r.payload.length ≤ (s.svc.shadow.words tb).length := by
        rw [words_length hsized.2.1 hcopies, hlength, ← Nat.add_mul]
        exact Nat.mul_le_mul_right _ hentries
      refine ⟨s.svc.shadow.written tb r.index.toNat r.payload, next_request hrun (serveWrite_shadow hnamed (hcheck hclass)
        (shadowBarred_none hfree) hreport), fun other hother => words_setWords_other _ _ _ hother, ?_, fun i => ?_⟩
      · rw [hwords, overlay_length]
      · rw [hwords, overlay_getD hfits, hlength]
    · refine ⟨_, next_request hrun (serveWrite_report hnamed (hcheck (by simp [hreport, TableId.cls])) hreport), ?_, ?_,
        rfl, ?_⟩
      · simp [State.setEnable]
      · simp [State.setEnable, State.alertLevel]
      · intro b hb; cases b <;> simp [Block.Same] at hb ⊢
  case discard =>
    have hcheck (hclass : tb.cls = .commissioning ∨ tb.cls = .recipe) : commonCheck .discard r = none :=
      (tableCheck_admitted hnamed (tb.cls.bars_discard hclass)).trans (if_pos (by simp [hpayload]))
    refine ⟨fun hfree => ?_, fun hbusy => ?_, fun hclass hnode => ?_⟩
    · have hcopies := class_of_editable hfree
      rw [← hpayload]
      exact ⟨s.svc.shadow.setWords tb (s.svc.active.words tb), next_request hrun (serveDiscard_shadow hnamed (hcheck hcopies)
        (shadowBarred_none hfree)), words_setWords _ _ _ hcopies, fun other hother => words_setWords_other _ _ _ hother⟩
    · rw [← hpayload]
      exact next_request hrun
        (serveDiscard_barred hnamed (hcheck (hbusy.imp And.left And.left)) (shadowBarred_busy hbusy))
    · rw [← hpayload]
      exact next_request hrun
        (serveDiscard_barred hnamed (hcheck (.inl hclass)) (shadowBarred_state hclass hnode))

/-! ### COMMIT (R168) -/

section
variable {s : State} {r : Request} {tb : TableId} (hcheck : commonCheck .commit r = none)
  (hnamed : TableId.ofCode r.table.toNat = some tb)
include hcheck hnamed

theorem serveCommit_busy (h : s.svc.pendingSet.has tb = true) : serveCommit r s = (s, .refused .busy r) := by
  rw [serveCommit, s.checked_passes hcheck, onTable_named hnamed, if_pos h]

variable (h : s.svc.pendingSet.has tb = false)
include h

theorem serveCommit_fails {f : Failure} (hfails : s.svc.shadow.recipe.validate tb = some f) :
    serveCommit r s = (s, .failedCheck f) := by
  rw [serveCommit, s.checked_passes hcheck, onTable_named hnamed, if_neg (ne_true_of_eq_false h), hfails]

theorem serveCommit_joins (hpasses : s.svc.shadow.recipe.validate tb = none) :
    serveCommit r s = (s.setPending (s.svc.pendingSet.join tb), .accepted0) := by
  rw [serveCommit, s.checked_passes hcheck, onTable_named hnamed, if_neg (ne_true_of_eq_false h), hpasses]

end

/-- Settles O45: the judgement in its order, and what `has_join` says of the pending set. -/
theorem commitJoinsThePendingSet : Obligations.CommitJoinsThePendingSet := by
  refine ⟨fun p => ⟨rfl, rfl, rfl, rfl, by simp [PendingSet.has]⟩, fun s r tb hrun hnamed hclass hlength => ?_⟩
  have hcheck : commonCheck .commit r = none := (tableCheck_admitted hnamed (by rw [hclass]; rfl)).trans (if_pos hlength)
  refine ⟨fun hbusy => next_request hrun (serveCommit_busy hcheck hnamed hbusy),
    fun hfree f hfails => next_request hrun (serveCommit_fails hcheck hnamed hfree hfails),
    fun hfree hpasses => ⟨s.svc.pendingSet.join tb,
      next_request hrun (serveCommit_joins hcheck hnamed hfree hpasses), ?_, fun other hother => ?_⟩⟩
  · simp [has_join _ hclass]
  · simp [has_join _ hclass, hother]

/-! ### ENTER_CONFIG and LEAVE_CONFIG (R169, R170) -/

/-- HEAT_REQUEST is low in CONFIG (R63). -/
theorem toConfig_eq (s : State) :
    s.toConfig = { s with
      svc := { s.svc with node := .config, shadow := { s.svc.shadow with comm := s.svc.active.comm } }
      pins := { s.pins with heatRequest := false } } := by
  simp [State.toConfig, State.formHeat, State.heatLevel]

/-- Settles O48: the judgements are made in the order of `serveEnterConfig` and `serveLeaveConfig`. -/
theorem configIsEnteredAndLeft : Obligations.ConfigIsEnteredAndLeft := by
  intro s r hrun
  have henter (hpayload : r.payload = []) : commonCheck .enterConfig r = none := lengthCheck_passes (by simp [hpayload])
  have hleave (hlength : r.payload.length = 2) : commonCheck .leaveConfig r = none := lengthCheck_passes hlength
  have hidle (h : s.svc.writing = none) : ¬ s.svc.writing.isSome = true := by simp [h]
  refine ⟨fun hpayload hstore hcold hfree => ?_, fun hpayload hbusy => ?_, fun hpayload hstore hwarm hfree => ?_,
    fun hlength hoperate => ?_, fun hlength hconfig hbusy => ?_, fun hlength hconfig hstore hfree => ?_⟩
  · have hentered : serveEnterConfig r s = (s.toConfig, .done r) := by
      refine (s.checked_passes (henter hpayload) _).trans ?_
      rw [if_neg (hidle hstore), if_neg hfree, if_neg (not_not.2 hcold)]
    rw [toConfig_eq] at hentered
    rw [← hpayload]
    exact next_request hrun hentered
  · rw [← hpayload]
    refine next_request hrun ((s.checked_passes (henter hpayload) _).trans ?_)
    rcases hbusy with hwriting | hpending
    · exact if_pos hwriting
    · rw [if_pos hpending, ite_self]
      rfl
  · rw [← hpayload]
    refine next_request hrun ((s.checked_passes (henter hpayload) _).trans ?_)
    rw [if_neg (hidle hstore), if_neg hfree, if_pos hwarm]
    rfl
  · exact next_request hrun ((s.checked_passes (hleave hlength) _).trans (if_pos hoperate))
  · refine next_request hrun ((s.checked_passes (hleave hlength) _).trans ?_)
    rw [if_neg (by simp [hconfig])]
    rcases hbusy with hwriting | hpending
    · exact if_pos hwriting
    · rw [if_pos hpending, ite_self]
      rfl
  · have hcheck := hleave hlength
    have hstored := hidle hstore
    refine ⟨fun f hfails => ?_, fun hpasses => ?_⟩
    · have hrefused : serveLeaveConfig r s = (s, .failedCheck f) := by
        rw [serveLeaveConfig, s.checked_passes hcheck, hconfig, if_neg nofun, if_neg hstored,
          if_neg (ne_true_of_eq_false hfree), hfails]
      exact next_request hrun hrefused
    · have haccepted : serveLeaveConfig r s =
          (s.setPending { s.svc.pendingSet with comm := true }, .accepted0) := by
        rw [serveLeaveConfig, s.checked_passes hcheck, hconfig, if_neg nofun, if_neg hstored,
          if_neg (ne_true_of_eq_false hfree), hpasses]
      exact next_request hrun haccepted

/-! ### STORE and its completion (R172) -/

theorem exec_storeCompletion {s : State} {image : Commissioning} (h : s.svc.writing = some image) (written : Bool) :
    exec (.storeCompletion written) s = .next (s.endStore image written) := by
  have hexec : exec (.storeCompletion written) s = execStoreCompletion written s := rfl
  rw [hexec, execStoreCompletion, h]

/-- A write that fails leaves the marker invalid, and latches both flags. -/
theorem endStore_failed (s : State) (image : Commissioning) :
    (s.endStore image false).nv.marker = false
      ∧ (s.endStore image false).svc =
          { s.svc with
            writing := none
            result := .failed
            latched := s.svc.latched ||| Flag.storeFail.mask ||| Flag.storeInvalid.mask }
      ∧ ChangesOnly s (s.endStore image false) [.nv, .svc, .pins] :=
  ⟨rfl, rfl, by intro b hb; cases b <;> simp [Block.Same, State.endStore] at hb ⊢⟩

/-- Settles O49: STORE is judged in the order of `serveStore`, and its completion is `endStore`. -/
theorem storeWritesTheActiveTables : Obligations.StoreWritesTheActiveTables := by
  intro s r hrun hpayload
  have hcheck : commonCheck .store r = none := lengthCheck_passes (by simp [hpayload])
  rw [← hpayload]
  refine ⟨fun hdefaults => ?_, fun hstored hwriting => ?_, fun hstored hidle => ?_, fun image hwriting => ?_⟩
  · exact next_request hrun ((s.checked_passes hcheck _).trans (if_pos hdefaults))
  · refine next_request hrun ((s.checked_passes hcheck _).trans ?_)
    rw [if_neg (ne_true_of_eq_false hstored), if_pos hwriting]
    rfl
  · have haccepted : serveStore r s = (s.beginStore, .accepted r) := by
      refine (s.checked_passes hcheck _).trans ?_
      rw [if_neg (ne_true_of_eq_false hstored), if_neg (by simp [hidle])]
    exact next_request hrun haccepted
  · exact ⟨exec_storeCompletion hwriting true, _, exec_storeCompletion hwriting false, endStore_failed s image⟩

/-! ### CLEAR_LATCHED, CLEAR_CAUSES and CLEAR_COUNTERS (R174 to R176) -/

/-- CLEAR_LATCHED clears the flags its mask names whose conditions are not present (R174). -/
theorem latchedAfter_getLsbD (s : State) (mask : Word) (f : Flag) :
    (s.latchedAfter mask).getLsbD (flagNumber f) = true ↔
      s.svc.latched.getLsbD (flagNumber f) = true ∧ (mask.getLsbD (flagNumber f) = true → presentNow s f) := by
  have hlt : flagNumber f < 16 := by rw [flagNumber_eq_bit]; exact f.bit_lt
  rw [← presentOf_iff, ← presentSet_getLsbD]
  simp only [State.latchedAfter, BitVec.ofNat_toNat, BitVec.getLsbD_and, BitVec.getLsbD_not, BitVec.getLsbD_setWidth, hlt,
    decide_true, Bool.true_and, Bool.and_eq_true, Bool.not_eq_true', Bool.and_eq_false_iff, Bool.not_eq_false']
  cases mask.getLsbD (flagNumber f) <;> simp

/-- Settles O50: the flags left by `latchedAfter_getLsbD`, and the two requests that are always taken. -/
theorem clearsDoWhatTheySay : Obligations.ClearsDoWhatTheySay := by
  refine ⟨fun s f => ⟨presentOf_iff s f, (flagNumber_eq_bit f).symm, ?_, fun m => ?_⟩, fun s r hrun =>
    ⟨fun w hpayload => ?_, fun hpayload => ?_⟩⟩
  · rw [flagNumber_eq_bit]; rfl
  · rw [flagNumber_eq_bit]; rfl
  · have hcheck : commonCheck .clearLatched r = none := lengthCheck_passes (by simp [hpayload])
    have hserved : serveClearLatched r s = (s.setLatched (s.latchedAfter w),
        ⟨.done, 0, [(s.latchedAfter w).setWidth 32]⟩) := by
      rw [serveClearLatched, s.checked_passes hcheck, hpayload, ← BitVec.ofNat_toNat]
      rfl
    refine ⟨_, next_request hrun hserved, latchedAfter_getLsbD s w, rfl, rfl, rfl, ?_⟩
    intro b hb; cases b <;> simp [Block.Same] at hb ⊢
  · rw [← hpayload]
    have hcauses : commonCheck .clearCauses r = none := lengthCheck_passes (by simp [hpayload])
    have hcounters : commonCheck .clearCounters r = none := lengthCheck_passes (by simp [hpayload])
    exact ⟨next_request hrun (s.checked_passes hcauses _), next_request hrun (s.checked_passes hcounters _)⟩

/-! ### LINE_RESET (R177) -/

/-- Settles O52: the judgement in the order of `serveLineReset`. -/
theorem lineResetIsJudgedInOrder : Obligations.LineResetIsJudgedInOrder := by
  intro s r hrun hpayload
  have hcheck : commonCheck .lineReset r = none := lengthCheck_passes (by simp [hpayload])
  rw [← hpayload]
  refine ⟨fun hwriting => ?_, fun hidle htaken => ?_, fun hidle hoperate hbarred => ?_⟩
  · exact next_request hrun ((s.checked_passes hcheck _).trans (if_pos hwriting))
  · have haccepted : serveLineReset r s = ({ s with svc := { s.svc with lineResetDue := true } }, .done r) := by
      refine (s.checked_passes hcheck _).trans ?_
      rw [if_neg (by simp [hidle]), if_pos htaken]
    exact next_request hrun haccepted
  · refine next_request hrun ((s.checked_passes hcheck _).trans ?_)
    have hnot : ¬ (s.svc.node = .config ∨ (s.engine.dryer.state = .cold ∧ s.trip.latch = false)) := by
      rw [hoperate]
      rintro (h | ⟨hcold, hclear⟩)
      · cases h
      · exact hbarred.elim (absurd hcold) fun hset => by simp [hset] at hclear
    rw [if_neg (by simp [hidle]), if_neg hnot]
    rfl

end Sys2Proof.Machine
end

section
/-!
SUPPORT. Proofs about the resets (R178), what the state after one meets, and the end of load (R173, R159).
-/
namespace Sys2Proof.Machine

/-! ### Resets (R178) -/

theorem resetBlocks_changesOnly (s : State) (causes : BitVec 3) :
    ChangesOnly s (s.resetBlocks causes) [.port, .sup, .engine, .trip, .svc, .pins, .localTime] := by
  intro b hb; cases b <;> simp [Block.Same, State.resetBlocks] at hb ⊢

/-- The output lines of the reset: TRIP high while LOADING, the others low (R63, R150, R175). -/
theorem resetBlocks_pins (s : State) (causes : BitVec 3) :
    (s.resetBlocks causes).pins = { s.pins with heatRequest := false, tripLine := true, alertLine := false } := by
  simp [State.resetBlocks, State.heatLevel, State.tripLevel, State.alertLevel, Engine.reset, DryerRec.reset,
    DryerState.heated, Handler.reset]

/-- Settles O4: each reset is `resetBlocks` with its own causes. -/
theorem resetsRestoreEveryBlock : Obligations.ResetsRestoreEveryBlock := by
  refine ⟨fun s c causes resetN sent hkind => ?_, fun s hheld => ?_⟩
  · rcases hkind with ⟨rfl, rfl, rfl, rfl⟩ | ⟨cut, rfl, rfl, rfl, rfl⟩ | ⟨rfl, hdue, rfl, rfl, rfl⟩
    · exact ⟨_, rfl, rfl, rfl, rfl, rfl, rfl, resetBlocks_pins s _, rfl, rfl,
        (resetBlocks_changesOnly s _).mono (by simp)⟩
    · have hheld : ChangesOnly s ((s.cutSent cut).setResetN false) [.pins, .sent] := by
        intro b hb; cases cut <;> cases b <;> simp [Block.Same, State.cutSent, State.setResetN] at hb ⊢
      have hpins : ((s.cutSent cut).setResetN false).pins = { s.pins with resetN := false } := by cases cut <;> rfl
      refine ⟨_, rfl, rfl, rfl, rfl, rfl, rfl, ?_, rfl, ?_,
        (hheld.mono (by simp)).trans ((resetBlocks_changesOnly _ _).mono (by simp))⟩
      · rw [resetBlocks_pins, hpins]
      · cases cut <;> rfl
    · refine ⟨s.resetBlocks (s.svc.resetCauses ||| ResetCause.line.mask), ?_, rfl, rfl, rfl, rfl, rfl,
        resetBlocks_pins s _, rfl, rfl, (resetBlocks_changesOnly s _).mono (by simp)⟩
      exact congrArg Host.Outcome.next (if_pos hdue)
  · exact congrArg Host.Outcome.next (if_neg (ne_true_of_eq_false hheld))

theorem item_replicate (n i : Nat) : item (List.replicate n 0) i = 0 := by
  simp only [item, List.getD_eq_getElem?_getD, List.getElem?_replicate]
  split <;> rfl

/-- Settles O5: the reset image, item by item. -/
theorem resetValuesOfTheTables : Obligations.ResetValuesOfTheTables := by
  refine ⟨?_, ?_, ?_, ?_, ?_, ?_, ?_, rfl⟩
  · exact ⟨rfl, rfl, rfl, rfl, rfl, rfl, rfl⟩
  · exact ⟨rfl, rfl, rfl, rfl, rfl, rfl, rfl⟩
  · refine ⟨rfl, rfl, rfl, rfl, rfl, rfl, rfl, rfl, fun k _ => ?_⟩
    have htaken : (TripUnit.reset.filter k).taken = none := startFilters_taken .reset k
    exact ⟨htaken, fun mode => by rw [htaken, active_none]⟩
  · exact ⟨rfl, rfl, rfl, rfl, fun z _ => reset_zone z, rfl, rfl, rfl, rfl, rfl⟩
  · repeat' apply And.intro
    all_goals rfl
  · exact fun causes => ⟨rfl, rfl, rfl, rfl, rfl, rfl, rfl, rfl, rfl, rfl⟩
  · intro ws hws i
    rw [List.mem_cons, List.mem_cons, List.mem_cons, List.mem_singleton] at hws
    rcases hws with rfl | rfl | rfl | rfl <;> exact item_replicate _ i

/-- Empty recipes pass every check (R165, R168). -/
theorem recipe_blank_accepted : Recipe.blank.Accepted := by
  obtain ⟨hzones, hexhaust, hchill, hdose, -⟩ := doseWindowChecks
  have hz (i : Nat) : item Recipe.blank.zoneCurves i = 0 := item_replicate _ i
  have he (i : Nat) : item Recipe.blank.exhaustCurve i = 0 := item_replicate _ i
  have hc (i : Nat) : item Recipe.blank.chillCurves i = 0 := item_replicate _ i
  have hd (i : Nat) : item Recipe.blank.doseWindows i = 0 := item_replicate _ i
  intro t
  cases t with
  | zoneCurves =>
    rw [hzones]
    simp [Recipe.zoneTag, Recipe.zonePoints, hz]
  | exhaustCurve =>
    rw [hexhaust]
    simp [Recipe.exhaustTag, Recipe.exhaustPoints, he]
  | chillCurves =>
    rw [hchill]
    simp [Recipe.chillTag, Recipe.chillTarget, Recipe.nominalExit, Recipe.feedGain, Recipe.lookLead, Recipe.rollPoints,
      hc]
  | doseWindows =>
    rw [hdose]
    simp [Recipe.doseTag, Recipe.doseMin, Recipe.doseMax, Recipe.exitLow, Recipe.exitHigh, Recipe.chillExitMax, hd]
  | _ => rfl

/-- The built-in defaults and the empty recipes have the words of Table 12.5. -/
theorem sized_defaults_blank : (⟨.defaults, .blank⟩ : Tables).sized = true := by
  simp [-List.reduceReplicate, Tables.sized, Tables.words, Commissioning.defaults, Recipe.blank, TableId.entries,
    TableId.entryWords]

/-- Settles O60: the reset values of the blocks, the built-in defaults and the empty recipes meet each invariant. -/
theorem resetMeetsEveryInvariant : Obligations.ResetMeetsEveryInvariant := by
  have houtputs : State.reset.OutputsInRange :=
    ⟨outputSet_reset_inRange, outputSet_reset_inRange, (outputsInRange_resetBlocks .reset 0).2.2⟩
  have hpending (t : TableId) : PendingSet.empty.has t = false := by cases t <;> rfl
  refine ⟨⟨rfl, rfl, rfl⟩, ⟨Nat.zero_le _, by decide, nofun⟩, trackSpaced_of_reset rfl, tripConsistent_of_reset rfl, ?_,
    ?_, houtputs, fun _ => ⟨rfl, rfl, rfl⟩, nofun, inactiveZonesClear_of_reset rfl, presentLatched_of_loading rfl⟩
  · exact ⟨.inl rfl, recipe_blank_accepted, .inl rfl, nofun, nofun,
      fun t ht => absurd ht (ne_true_of_eq_false (hpending t))⟩
  · exact ⟨sized_defaults_blank, sized_defaults_blank, sized_defaults_blank, nofun⟩

/-! ### The end of load (R173, R159, R151) -/

/-- STORE_INVALID is latched with the marker invalid, and TRIP by the restart trip. -/
theorem takeLoadEnd_svc (s : State) :
    (takeLoadEnd s).svc = { s.svc.loaded s.nv with
      latched :=
        (if s.nv.marker then s.svc.latched else s.svc.latched ||| Flag.storeInvalid.mask) ||| Flag.trip.mask } := by
  cases h : s.nv.marker <;> simp [takeLoadEnd, State.latchIf, Handler.loaded, h]

/-- The restart trip finds the latch clear, and after it the filters begin. -/
theorem takeLoadEnd_trip {s : State} (hclear : s.trip.latch = false) :
    (takeLoadEnd s).trip =
      (s.trip.latched .restart (s.svc.loaded s.nv).active.comm.purgeTime).startFilters := by
  simp only [takeLoadEnd, State.formLines_trip]
  rw [State.tripArrives_clear _ _ (by simpa using hclear)]
  simp

section
variable (s : State) (heat trip alert : Bool)

/-- A trip moves no terminal but the three output lines. -/
theorem tripArrives_levels (c : Cause) :
    { (s.tripArrives c).pins with heatRequest := heat, tripLine := trip, alertLine := alert } =
      { s.pins with heatRequest := heat, tripLine := trip, alertLine := alert } := by
  unfold State.tripArrives
  split <;> rfl

theorem latchIf_levels (b : Bool) (f : Flag) :
    { (s.latchIf b f).pins with heatRequest := heat, tripLine := trip, alertLine := alert } =
      { s.pins with heatRequest := heat, tripLine := trip, alertLine := alert } := by
  unfold State.latchIf
  split <;> rfl

end

/-- The latch set holds HEAT_REQUEST low and TRIP high (R63, R150). -/
theorem takeLoadEnd_pins (s : State) :
    (takeLoadEnd s).pins = { s.pins with
      heatRequest := false
      tripLine := true
      alertLine := ((takeLoadEnd s).svc.latched &&& (takeLoadEnd s).svc.enable) != 0 } := by
  have hlatch : (takeLoadEnd s).trip.latch = true := State.tripArrives_latch _ _
  have hkept : (takeLoadEnd s).pins = { s.pins with
      heatRequest := (takeLoadEnd s).heatLevel, tripLine := (takeLoadEnd s).tripLevel
      alertLine := (takeLoadEnd s).alertLevel } :=
    (tripArrives_levels _ _ _ _ .restart).trans (latchIf_levels _ _ _ _ (!s.nv.marker) .storeInvalid)
  rw [hkept, State.heatLevel, State.tripLevel, State.alertLevel, hlatch]
  simp

theorem takeLoadEnd_changesOnly (s : State) : ChangesOnly s (takeLoadEnd s) [.svc, .trip, .pins, .localTime] := by
  intro b hb; cases b <;> simp [Block.Same, takeLoadEnd] at hb ⊢

/-- Settles O6: the built-in defaults by evaluation, and the end of load field by field. -/
theorem loadEndStartsThePart : Obligations.LoadEndStartsThePart := by
  refine ⟨?_, fun s hload hresetN hclear => ?_⟩
  · refine ⟨rfl, List.length_replicate, fun w hw => List.eq_of_mem_replicate hw, rfl, rfl, ?_, rfl, rfl, ?_, rfl, rfl⟩
      <;> decide
  · have hexec : exec .loadEnd s = .next (takeLoadEnd s) := congrArg Host.Outcome.next (if_pos ⟨hload, hresetN⟩)
    refine ⟨_, hexec, fun hmarker => ?_, fun hmarker => ?_, ?_, takeLoadEnd_pins s, ?_, takeLoadEnd_changesOnly s⟩
    · rw [takeLoadEnd_svc]; simp [Handler.loaded, ParamStore.loaded, hmarker]
    · rw [takeLoadEnd_svc]; simp [Handler.loaded, ParamStore.loaded, hmarker]
    · rw [takeLoadEnd_trip hclear, takeLoadEnd_svc]
      rfl
    · simp [takeLoadEnd]

end Sys2Proof.Machine
end

section
/-!
SUPPORT. Proofs about the service lane (R162, R177, R180): the reply that each request writes over its record, the sizes
of the tables through a request (Table 12.5), and the records in lane order.
-/
namespace Sys2Proof.Machine

/-! ### The words of the tables (Table 12.5) -/

theorem sized_iff (t : Tables) :
    t.sized = true ↔ ∀ tb : TableId, tb.cls = .commissioning ∨ tb.cls = .recipe →
      (t.words tb).length = tb.entries * tb.entryWords := by
  refine ⟨fun h tb => words_length h, fun h => List.all_eq_true.2 fun tb htb => decide_eq_true (h tb ?_)⟩
  cases tb with
  | report | status | track | counters | identity => simp at htb
  | _ => simp [TableId.cls]

/-- A copy keeps the words of Table 12.5 where a table is replaced by one of its length. -/
theorem sized_setWords {t : Tables} {tb : TableId} {ws : List Word} (h : t.sized = true)
    (hws : tb.cls = .commissioning ∨ tb.cls = .recipe → ws.length = tb.entries * tb.entryWords) :
    (t.setWords tb ws).sized = true := by
  rw [sized_iff] at h ⊢
  intro other hcopies
  by_cases heq : other = tb
  · subst heq
    rw [words_setWords _ _ _ hcopies, hws hcopies]
  · rw [words_setWords_other _ _ _ heq, h other hcopies]

/-- Commissioning tables and recipes may come from different copies. -/
theorem sized_mk {t u : Tables} (ht : t.sized = true) (hu : u.sized = true) :
    (⟨t.comm, u.recipe⟩ : Tables).sized = true := by
  rw [sized_iff] at ht hu ⊢
  intro tb hcopies
  cases tb with
  | zoneCurves | exhaustCurve | chillCurves | doseWindows => exact hu _ hcopies
  | _ => exact ht _ hcopies

theorem trackEntry_length (records : List Segment) (i : Nat) : (trackEntry records i).length = 4 := by
  unfold trackEntry
  split <;> rfl

theorem length_flatten_const {α : Type} {n : Nat} {ls : List (List α)} (h : ∀ l ∈ ls, l.length = n) :
    ls.flatten.length = ls.length * n := by
  rw [List.length_flatten, List.map_congr_left h, List.map_const', List.sum_replicate, smul_eq_mul]

theorem trackWords_length (v : View) : v.trackWords.length = 512 := by
  rw [View.trackWords, length_flatten_const (forall_mem_tabulate.2 fun i _ => trackEntry_length v.records i),
    tabulate_length]

/-- The content of a table with copies is that of the copy named (R165). -/
theorem content_of_copies (s : State) {tb : TableId} (h : tb.cls = .commissioning ∨ tb.cls = .recipe) (shadow : Bool) :
    s.content tb shadow = (if shadow then s.svc.shadow else s.svc.active).words tb := by
  cases tb with
  | report | status | track | counters | identity => simp [TableId.cls] at h
  | _ => rfl

/-- Every table READ can return has the words of Table 12.5. -/
theorem content_length {s : State} (h : s.TablesSized) (tb : TableId) (shadow : Bool) :
    (s.content tb shadow).length = tb.entries * tb.entryWords := by
  by_cases hcopies : tb.cls = .commissioning ∨ tb.cls = .recipe
  · rw [content_of_copies s hcopies]
    cases shadow
    exacts [words_length h.1 hcopies, words_length h.2.1 hcopies]
  · cases tb with
    | report | status | counters | identity => rfl
    | track => exact trackWords_length _
    | _ => simp [TableId.cls] at hcopies

theorem entriesOf_length {ws : List Word} {entries width index count : Nat} (h : ws.length = entries * width)
    (hentries : index + count ≤ entries) : (entriesOf ws width index count).length = count * width := by
  have hfits : index * width + count * width ≤ entries * width := by
    rw [← Nat.add_mul]
    exact Nat.mul_le_mul_right _ hentries
  rw [entriesOf, List.length_take, List.length_drop, h]
  omega

/-! ### What passing the common checks says of a request -/

theorem accessCheck_eq_none {k : RequestKind} {r : Request} (h : accessCheck k r = none) :
    ∃ tb, TableId.ofCode r.table.toNat = some tb ∧ r.index.toNat + r.count.toNat ≤ tb.entries
      ∧ r.payload.length = r.count.toNat * tb.entryWords := by
  cases hnamed : TableId.ofCode r.table.toNat with
  | none => rw [accessCheck_unknown hnamed] at h; cases h
  | some tb =>
    cases hbars : tb.cls.bars k with
    | some why => rw [accessCheck_barred hnamed hbars] at h; cases h
    | none =>
      rw [accessCheck_admitted hnamed hbars] at h
      split_ifs at h with hrange hlength
      have hrange' : countInRange r tb = true := by simpa using hrange
      simp only [countInRange, Bool.and_eq_true, decide_eq_true_eq] at hrange'
      exact ⟨tb, rfl, hrange'.2, hlength⟩

theorem tableCheck_eq_none {k : RequestKind} {r : Request} {length : Nat} (h : tableCheck k r length = none) :
    r.payload.length = length := by
  cases hnamed : TableId.ofCode r.table.toNat with
  | none => rw [tableCheck_unknown hnamed] at h; cases h
  | some tb =>
    cases hbars : tb.cls.bars k with
    | some why => rw [tableCheck_barred hnamed hbars] at h; cases h
    | none =>
      rw [tableCheck_admitted hnamed hbars] at h
      split_ifs at h with hlength
      exact hlength

theorem lengthCheck_eq_none {r : Request} {length : Nat} (h : lengthCheck r length = none) :
    r.payload.length = length := by
  unfold lengthCheck at h
  split_ifs at h with hlength
  exact hlength

/-! ### The length of a record, and the sizes of the tables, through a request -/

/-- A request served keeps the length of its record, and every copy of every table its size. -/
def KeepsSizes (r : Request) (out : State × Reply) : Prop :=
  out.2.payload.length = r.payload.length ∧ out.1.TablesSized

section
variable {s : State} {r : Request} (h : s.TablesSized)
include h

theorem keepsSizes_plain (status : Status) : KeepsSizes r (s, .plain status r) := ⟨rfl, h⟩

/-- A record that fails a check is left with its payload. -/
theorem keepsSizes_checked {k : RequestKind} {f : State × Reply} (hf : commonCheck k r = none → KeepsSizes r f) :
    KeepsSizes r (s.checked k r f) := by
  cases hcheck : commonCheck k r with
  | some why => rw [s.checked_fails hcheck]; exact keepsSizes_plain h _
  | none => rw [s.checked_passes hcheck]; exact hf hcheck

theorem keepsSizes_onTable {f : TableId → State × Reply}
    (hf : ∀ tb, TableId.ofCode r.table.toNat = some tb → KeepsSizes r (f tb)) : KeepsSizes r (onTable r s f) := by
  cases hnamed : TableId.ofCode r.table.toNat with
  | none => rw [onTable, hnamed]; exact keepsSizes_plain h _
  | some tb => rw [onTable_named hnamed]; exact hf tb hnamed

theorem keepsSizes_serveRead : KeepsSizes r (serveRead r s) := by
  refine keepsSizes_checked h fun hcheck => keepsSizes_onTable h fun tb hnamed => ?_
  obtain ⟨tb', hnamed', hentries, hlength⟩ := accessCheck_eq_none (k := .read) hcheck
  obtain rfl := Option.some.inj (hnamed.symm.trans hnamed')
  split
  · exact keepsSizes_plain h _
  · exact ⟨(entriesOf_length (content_length h tb _) hentries).trans hlength.symm, h⟩

/-- A shadow replaced by one with the words of Table 12.5. -/
theorem tablesSized_setShadow {t : Tables} (ht : t.sized = true) : (s.setShadow t).TablesSized :=
  ⟨h.1, ht, h.2.2⟩

theorem keepsSizes_serveWrite : KeepsSizes r (serveWrite r s) := by
  refine keepsSizes_checked h fun _ => keepsSizes_onTable h fun tb _ => ?_
  split
  · exact keepsSizes_plain h _
  · split
    · exact ⟨rfl, h⟩
    · exact ⟨rfl, tablesSized_setShadow h (sized_setWords h.2.1 fun hcopies =>
        (overlay_length _ _ _).trans (words_length h.2.1 hcopies))⟩

theorem keepsSizes_serveDiscard : KeepsSizes r (serveDiscard r s) := by
  refine keepsSizes_checked h fun _ => keepsSizes_onTable h fun tb _ => ?_
  split
  · exact keepsSizes_plain h _
  · exact ⟨rfl, tablesSized_setShadow h (sized_setWords h.2.1 fun hcopies => words_length h.1 hcopies)⟩

theorem keepsSizes_serveCommit : KeepsSizes r (serveCommit r s) := by
  refine keepsSizes_checked h fun hcheck => keepsSizes_onTable h fun tb _ => ?_
  have hlength : r.payload.length = 2 := tableCheck_eq_none (k := .commit) hcheck
  split
  · exact keepsSizes_plain h _
  · split <;> exact ⟨hlength.symm, h⟩

theorem keepsSizes_serveEnterConfig : KeepsSizes r (serveEnterConfig r s) := by
  refine keepsSizes_checked h fun _ => ?_
  split_ifs
  · exact keepsSizes_plain h _
  · exact keepsSizes_plain h _
  · exact keepsSizes_plain h _
  · exact ⟨rfl, h.1, sized_mk h.1 h.2.1, h.2.2⟩

theorem keepsSizes_serveLeaveConfig : KeepsSizes r (serveLeaveConfig r s) := by
  refine keepsSizes_checked h fun hcheck => ?_
  have hlength : r.payload.length = 2 := lengthCheck_eq_none hcheck
  split_ifs
  · exact keepsSizes_plain h _
  · exact keepsSizes_plain h _
  · exact keepsSizes_plain h _
  · split <;> exact ⟨hlength.symm, h⟩

/-- The image taken is the active commissioning tables. -/
theorem keepsSizes_serveStore : KeepsSizes r (serveStore r s) := by
  refine keepsSizes_checked h fun _ => ?_
  split_ifs
  · exact keepsSizes_plain h _
  · exact keepsSizes_plain h _
  · refine ⟨rfl, h.1, h.2.1, h.2.2.1, fun c hc => ?_⟩
    obtain rfl := Option.some.inj hc
    exact sized_mk (u := ⟨.defaults, .blank⟩) h.1 sized_defaults_blank

theorem keepsSizes_serveClearLatched : KeepsSizes r (serveClearLatched r s) :=
  keepsSizes_checked h fun hcheck => ⟨(lengthCheck_eq_none hcheck).symm, h⟩

theorem keepsSizes_serveTripReset : KeepsSizes r (serveTripReset r s) := by
  refine keepsSizes_checked h fun _ => ?_
  split_ifs <;> exact ⟨rfl, h⟩

theorem keepsSizes_serveTestTrip : KeepsSizes r (serveTestTrip r s) := by
  refine keepsSizes_checked h fun _ => ?_
  split_ifs
  · exact keepsSizes_plain h _
  · exact ⟨rfl, by simpa [State.TablesSized] using h⟩

theorem keepsSizes_serveLineReset : KeepsSizes r (serveLineReset r s) := by
  refine keepsSizes_checked h fun _ => ?_
  split_ifs <;> exact ⟨rfl, h⟩

theorem keepsSizes_serve (k : RequestKind) : KeepsSizes r (serve k r s) := by
  cases k with
  | read => exact keepsSizes_serveRead h
  | write => exact keepsSizes_serveWrite h
  | commit => exact keepsSizes_serveCommit h
  | discard => exact keepsSizes_serveDiscard h
  | enterConfig => exact keepsSizes_serveEnterConfig h
  | leaveConfig => exact keepsSizes_serveLeaveConfig h
  | store => exact keepsSizes_serveStore h
  | clearLatched => exact keepsSizes_serveClearLatched h
  | clearCauses => exact keepsSizes_checked h fun _ => ⟨rfl, h⟩
  | clearCounters => exact keepsSizes_checked h fun _ => ⟨rfl, h⟩
  | tripReset => exact keepsSizes_serveTripReset h
  | testTrip => exact keepsSizes_serveTestTrip h
  | lineReset => exact keepsSizes_serveLineReset h

end

theorem keepsSizes_serveRecord {s : State} (h : s.TablesSized) (r : Record) :
    KeepsSizes r.request (serveRecord r s) := by
  unfold serveRecord
  split
  exacts [keepsSizes_plain h _, keepsSizes_serve h _]

/-! ### The service lane, in lane order (R162, R163, R177) -/

/-- At the present local time no time passes. -/
theorem advanceTo_now (s : State) : s.advanceTo s.localTime = s := by
  simp [State.advanceTo, State.elapse, Supervisor.elapse, TripUnit.elapse]

theorem exec_testTrip_now (s : State) (r : Request) :
    exec (.testTrip r s.localTime) s = .next (s.request (serve .testTrip r s)) := by
  have hexec : exec (.testTrip r s.localTime) s =
      .next ((s.advanceTo s.localTime).request (serveTestTrip r (s.advanceTo s.localTime))) := rfl
  rw [hexec, advanceTo_now]
  rfl

/-- The command of a record is that of its kind. -/
theorem commandOf_spec (r : Record) (s : State) :
    (commandOf r s.localTime = none ∧ RequestKind.ofCode r.kind.toNat = none)
      ∨ ∃ c k, commandOf r s.localTime = some c ∧ RequestKind.ofCode r.kind.toNat = some k
          ∧ exec c s = .next (s.request (serve k r.request s)) := by
  unfold commandOf
  generalize r.kind.toNat = n
  match n with
  | 1 | 2 | 3 | 4 | 5 | 6 | 7 | 8 | 9 | 10 | 11 | 13 => exact .inr ⟨_, _, rfl, rfl, rfl⟩
  | 12 => exact .inr ⟨_, _, rfl, rfl, exec_testTrip_now s r.request⟩
  | 0 | n + 14 => exact .inl ⟨rfl, rfl⟩

section
variable {s : State} {r : Record} (rest : List Record) (haddressed : addressedHere s r)
include haddressed

/-- An accepted LINE_RESET ends the lane. -/
theorem serveLane_ends {u : State} {reply : Reply} (hserved : serveRecord r s = (u, reply)) (hkind : r.kind = 13)
    (hdone : reply.status = .done) : serveLane (r :: rest) s = (u, r.answered reply :: rest) := by
  rw [serveLane, if_pos ((addressed_iff s r).2 haddressed), hserved, if_pos (by simp [endsLane, hkind, hdone])]

theorem serveLane_served {u : State} {reply : Reply} (hserved : serveRecord r s = (u, reply))
    (hgoes : r.kind ≠ 13 ∨ reply.status ≠ .done) :
    serveLane (r :: rest) s = ((serveLane rest u).1, r.answered reply :: (serveLane rest u).2) := by
  have hends : ¬ endsLane r reply = true := by
    rw [endsLane, Bool.and_eq_true, beq_iff_eq, beq_iff_eq]
    exact not_and_or.2 hgoes
  rw [serveLane, if_pos ((addressed_iff s r).2 haddressed), hserved, if_neg hends]

end

/-- Each record leaves the lane as it arrived, or answered by the part as it found it. -/
theorem serveLane_getElem? {rs : List Record} {i : Nat} {r : Record} (s : State) (h : rs[i]? = some r) :
    ∃ r' u, (serveLane rs s).2[i]? = some r' ∧ (s.TablesSized → u.TablesSized)
      ∧ (r' = r ∨ (addressedHere u r ∧ r' = r.answered (serveRecord r u).2)) := by
  induction rs generalizing s i with
  | nil => cases h
  | cons first rest ih =>
    by_cases haddressed : addressedHere s first
    · obtain ⟨u, reply, hserved⟩ : ∃ u reply, serveRecord first s = (u, reply) := ⟨_, _, rfl⟩
      have hhead : first.answered reply = first.answered (serveRecord first s).2 := by rw [hserved]
      by_cases hends : first.kind = 13 ∧ reply.status = .done
      · rw [serveLane_ends rest haddressed hserved hends.1 hends.2]
        cases i with
        | zero =>
          obtain rfl := Option.some.inj h
          exact ⟨_, s, rfl, id, .inr ⟨haddressed, hhead⟩⟩
        | succ i => exact ⟨r, s, h, id, .inl rfl⟩
      · rw [serveLane_served rest haddressed hserved (not_and_or.1 hends)]
        cases i with
        | zero =>
          obtain rfl := Option.some.inj h
          exact ⟨_, s, rfl, id, .inr ⟨haddressed, hhead⟩⟩
        | succ i =>
          obtain ⟨r', v, hget, hsized, hr'⟩ := ih u h
          refine ⟨r', v, hget, fun hs => hsized ?_, hr'⟩
          have hkeeps := (keepsSizes_serveRecord hs first).2
          rwa [hserved] at hkeeps
    · rw [serveLane_passed rest haddressed]
      cases i with
      | zero =>
        obtain rfl := Option.some.inj h
        exact ⟨first, s, rfl, id, .inl rfl⟩
      | succ i => exact ih s h

/-- Settles O18: a record of the lane is passed, refused KIND, or answered as its command answers it. -/
theorem recordsKeepTheirOtherBytes : Obligations.RecordsKeepTheirOtherBytes := by
  refine ⟨fun s => rfl, fun s r rest hrun => ⟨serveLane_passed rest, fun haddressed hnone => ?_,
    fun c haddressed hc => ?_⟩, ⟨rfl, rfl, rfl, rfl, fun why => by cases why <;> exact ⟨rfl, rfl⟩⟩,
    fun rs s i r hr => ?_⟩
  · rcases commandOf_spec r s with ⟨-, hkind⟩ | ⟨c, k, hc, -⟩
    · exact serveLane_unknown rest haddressed hkind
    · rw [hnone] at hc
      cases hc
  · rcases commandOf_spec r s with ⟨hnone, -⟩ | ⟨c', k, hc', hkind, hexec⟩
    · rw [hnone] at hc
      cases hc
    · obtain rfl := Option.some.inj (hc.symm.trans hc')
      have hserved : serveRecord r s = ((serve k r.request s).1, (serve k r.request s).2) := by
        rw [serveRecord, hkind]
      exact ⟨_, _, hexec.trans (next_request hrun rfl), (serviceKeeps_serve k r.request s).1 .lastReply (by decide),
        serveLane_ends rest haddressed hserved, serveLane_served rest haddressed hserved⟩
  · obtain ⟨r', u, hget, hsized, rfl | ⟨⟨hstatus, hmode⟩, rfl⟩⟩ := serveLane_getElem? s hr
    · exact ⟨r', hget, rfl, rfl, rfl, rfl, rfl, rfl, rfl, fun _ => rfl, fun _ => rfl⟩
    · refine ⟨_, hget, rfl, rfl, rfl, rfl, rfl, rfl, rfl, fun hnot => ?_, fun hs =>
        (keepsSizes_serveRecord (hsized hs) r).1⟩
      rcases hnot with hnot | ⟨hone, htwo⟩
      · exact absurd hstatus hnot
      · rcases hmode with ⟨h, -⟩ | ⟨h, -⟩
        exacts [absurd h hone, absurd h htwo]

end Sys2Proof.Machine
end

section
/-!
SUPPORT. Proofs about the checks of the commissioning tables (R170, R181): each table's checks as its rows, what an
accepted shadow meets, and the chill supply max out of range.
-/
namespace Sys2Proof.Machine

/-! ### Checks that are made of some entries only -/

/-- A check that holds is passed over. -/
theorem firstFailure_skip {row : CheckRow} {rows : List CheckRow} {x : Option Failure} (hrow : row.1)
    (h : firstFailure rows x) : firstFailure (row :: rows) x :=
  firstFailure_append (x := none) (rows := [row]) ⟨by simpa using hrow, nofun⟩ h

/-- The checks of those entries that are in use; for any other entry its row holds. -/
theorem firstFailure_filter {α : Type} {row : α → CheckRow} {checks : α → Option Failure} {used : α → Bool} {l : List α}
    (h : ∀ a ∈ l, used a = true → firstFailure [row a] (checks a)) (hunused : ∀ a ∈ l, used a = false → (row a).1) :
    firstFailure (l.map row) (firstSome ((l.filter used).map checks)) := by
  induction l with
  | nil => exact firstFailure_nil
  | cons a l ih =>
    have hrest := ih (fun b hb => h b (.tail _ hb)) fun b hb => hunused b (.tail _ hb)
    cases hused : used a with
    | true =>
      rw [List.filter_cons_of_pos hused]
      exact firstFailure_cons (h a (.head _) hused) hrest
    | false =>
      rw [List.filter_cons_of_neg (by simp [hused])]
      exact firstFailure_skip (hunused a (.head _) hused) hrest

/-! ### NODE, LIMITS and the tuning tables -/

theorem firstFailure_node (c : Commissioning) : firstFailure (nodeRows c) (checkNode c.node) :=
  firstFailure_cons (firstFailure_checkRanges (by simp) (fun _ => rfl) nofun)
    (firstFailure_last (firstFailure_check decide_eq_true_iff rfl nofun))

theorem limitsOutOfRange_code (i : Nat) : (limitsOutOfRange i).code = 1025 := by
  unfold limitsOutOfRange
  split <;> rfl

theorem limitsOutOfRange_index {i j : Nat} (h : (if i = 18 then some 64 else none) = some j) :
    (limitsOutOfRange i).index = BitVec.ofNat 32 j := by
  unfold limitsOutOfRange
  split_ifs at h ⊢
  exact Check.failed_index _ _ h

theorem firstFailure_limits (c : Commissioning) : firstFailure (limitRows c) (checkLimits c.limits) :=
  firstFailure_cons (firstFailure_checkRanges (by simp) limitsOutOfRange_code fun _ _ => limitsOutOfRange_index) <|
    firstFailure_cons (firstFailure_check decide_eq_true_iff rfl (by simp)) <|
    firstFailure_cons (firstFailure_check decide_eq_true_iff rfl (by simp)) <|
    firstFailure_last (firstFailure_check decide_eq_true_iff rfl nofun)

theorem firstFailure_tuning (c : Commissioning) :
    firstFailure (tuningRows c)
      (firstSome [checkInputLines c.inputLines, checkZoneTuning c.zoneTuning, checkChillTuning c.chillTuning]) := by
  rw [tuningRows, List.append_assoc]
  refine firstFailure_cons (firstFailure_checkRanges (by simp) (fun _ => rfl) fun _ _ => Check.failed_index _ _) <|
    firstFailure_cons (firstFailure_checkRanges (by simp) (fun _ => rfl) fun _ _ => Check.failed_index _ _) <|
    firstFailure_last (firstFailure_checkRanges (by simp) (fun _ => rfl) fun i j h => Check.failed_index _ _ ?_)
  rw [← h]
  split_ifs <;> rfl

/-! ### GEOMETRY -/

/-- The zone or roll of a GEOMETRY item, or 64 (R118). -/
theorem geometryIndex_eq {i j : Nat}
    (h : [64, 64, 64, 64, 64, 0, 1, 2, 3, 4, 5, 0, 1, 2, 3, 4, 5, 0, 1, 2, 3, 4, 5, 6, 7][i]? = some j) :
    geometryIndex i = j := by
  have hlt : i < 25 := (List.getElem?_eq_some_iff.1 h).1
  have hall : ∀ i < 25, [64, 64, 64, 64, 64, 0, 1, 2, 3, 4, 5, 0, 1, 2, 3, 4, 5, 0, 1, 2, 3, 4, 5, 6, 7][i]? =
      some (geometryIndex i) := by decide
  exact Option.some.inj ((hall i hlt).symm.trans h)

theorem zoneOrdered_iff (c : Commissioning) (z : Nat) :
    zoneOrdered c z = true ↔ c.zoneStart z < c.zoneEnd z ∧ (z ≠ 0 → c.zoneEnd (z - 1) ≤ c.zoneStart z) := by
  simp [zoneOrdered, or_iff_not_imp_left]

theorem rollOrdered_iff (c : Commissioning) (r : Nat) :
    rollOrdered c r = true ↔
      (if r = 0 then c.exitPosition ≤ c.rollContact 0 else c.rollContact (r - 1) < c.rollContact r)
        ∧ (r + 1 = c.rollCount → c.rollContact r < c.chillExit) := by
  have himp (p q : Prop) : (¬ p ∨ q) ↔ (p → q) := imp_iff_not_or.symm
  unfold rollOrdered
  split_ifs <;> simp [himp]

theorem firstFailure_geometry (c : Commissioning) : firstFailure (geometryRows c) (checkGeometry c) := by
  rw [geometryRows]
  dsimp only
  rw [List.append_assoc, List.append_assoc, List.append_assoc]
  refine firstFailure_cons (firstFailure_checkRanges (by simp) (fun _ => rfl)
      fun _ _ h => Check.failed_index _ _ (congrArg some (geometryIndex_eq h))) <|
    firstFailure_cons (firstFailure_filter (fun z _ hused => firstFailure_failed ?_ rfl) fun z _ hunused hlt => ?_) <|
    firstFailure_cons (firstFailure_failed ?_ rfl) <|
    firstFailure_cons (firstFailure_filter (fun r _ hused => firstFailure_failed ?_ rfl) fun r _ hunused hlt => ?_) <|
    firstFailure_cons (firstFailure_failed decide_eq_true_iff rfl) <|
    firstFailure_last (firstFailure_failed decide_eq_true_iff rfl)
  · rw [zoneOrdered_iff]
    exact ⟨fun h _ => h, fun h => h (of_decide_eq_true hused)⟩
  · exact absurd hlt (of_decide_eq_false hunused)
  · rw [Bool.and_eq_true, decide_eq_true_eq, decide_eq_true_eq]
    rfl
  · rw [rollOrdered_iff]
    exact ⟨fun h _ => h, fun h => h (of_decide_eq_true hused)⟩
  · exact absurd hlt (of_decide_eq_false hunused)

/-! ### CELL_MAP -/

theorem mapEntryOk_iff (c : Commissioning) (i : Nat) :
    mapEntryOk c i = true ↔ c.mapChannel i = 0
      ∨ (((1 ≤ c.mapChannel i ∧ c.mapChannel i ≤ 16) ∨ (32 ≤ c.mapChannel i ∧ c.mapChannel i ≤ 55))
        ∧ c.mapCell i ≤ 255) := by
  simp [mapEntryOk, isInputChannel, isOutputChannel]

theorem cellTaken_iff (c : Commissioning) (i : Nat) :
    cellTaken c i = true ↔ c.mapChannel i ≠ 0 ∧ ∃ j < i, c.mapChannel j ≠ 0 ∧ c.mapCell j = c.mapCell i := by
  simp [cellTaken]

theorem channelTaken_iff (c : Commissioning) (i : Nat) :
    channelTaken c i = true ↔ c.mapChannel i ≠ 0 ∧ ∃ j < i, c.mapChannel j = c.mapChannel i := by
  simp [channelTaken]

theorem cellOf_isSome_iff (c : Commissioning) (ch : Nat) :
    (c.cellOf ch).isSome = true ↔ ∃ k < 64, c.mapChannel k = ch := by
  rw [Option.isSome_iff_ne_none, ne_eq, Commissioning.cellOf, firstSome_eq_none, forall_mem_tabulate]
  simp

theorem mem_activeRolls (c : Commissioning) (r : Nat) : r ∈ c.activeRolls ↔ r < 8 ∧ r < c.rollCount := by
  simp [Commissioning.activeRolls, Commissioning.rollActive]

/-- Every required channel is mapped: WEB_SPEED and MODE_REQUEST, each active zone's AIR_TEMP and FIRE, and each active
roll's CHILL_VALVE (R13). -/
theorem requiredChannels_iff (c : Commissioning) :
    ((requiredChannels c).all fun ch => (c.cellOf ch).isSome) = true ↔
      (∃ k < 64, c.mapChannel k = 1) ∧ (∃ k < 64, c.mapChannel k = 3)
        ∧ (∀ z < 6, z < c.zoneCount → (∃ k < 64, c.mapChannel k = 7 + z) ∧ ∃ k < 64, c.mapChannel k = 32 + z)
        ∧ ∀ r < 8, r < c.rollCount → ∃ k < 64, c.mapChannel k = 45 + r := by
  simp only [List.all_eq_true, requiredChannels, List.forall_mem_append, List.forall_mem_map, List.forall_mem_cons,
    List.not_mem_nil, IsEmpty.forall_iff, implies_true, and_true, cellOf_isSome_iff, mem_activeZones, mem_activeRolls,
    fireChannel, and_imp, forall_and, and_assoc]

theorem firstFailure_cellMap (c : Commissioning) : firstFailure (cellMapRows c) (checkCellMap c) := by
  rw [cellMapRows]
  dsimp only
  rw [List.append_assoc, List.append_assoc]
  refine firstFailure_cons (firstFailure_map fun i _ => firstFailure_failed (mapEntryOk_iff c i) rfl) <|
    firstFailure_cons (firstFailure_map fun i _ => firstFailure_failed ?_ rfl) <|
    firstFailure_cons (firstFailure_map fun i _ => firstFailure_failed ?_ rfl) <|
    firstFailure_last (firstFailure_failed (requiredChannels_iff c) rfl)
  · rw [Bool.not_eq_true', ← Bool.not_eq_true, cellTaken_iff]
    rfl
  · rw [Bool.not_eq_true', ← Bool.not_eq_true, channelTaken_iff]
    rfl

theorem firstFailure_validate (c : Commissioning) :
    firstFailure (nodeRows c ++ limitRows c ++ geometryRows c ++ cellMapRows c ++ tuningRows c) c.validate := by
  rw [List.append_assoc, List.append_assoc, List.append_assoc]
  exact firstFailure_cons (firstFailure_node c) <| firstFailure_cons (firstFailure_limits c) <|
    firstFailure_cons (firstFailure_geometry c) <| firstFailure_cons (firstFailure_cellMap c) (firstFailure_tuning c)

/-! ### What an accepted shadow meets -/

theorem forall_mem_rangeRows {ws : List Word} {start code : Nat} {index : Nat → Option Nat}
    {ranges : List (Nat × Nat)} :
    (∀ row ∈ rangeRows ws start code index ranges, row.1) ↔
      ∀ i r, ranges[i]? = some r → r.1 ≤ item ws (start + i) ∧ item ws (start + i) ≤ r.2 := by
  rw [rangeRows, List.forall_mem_map]
  exact ⟨fun h i r hr => h (r, i) (List.mk_mem_zipIdx_iff_getElem?.2 hr),
    fun h p hp => h p.2 p.1 (List.mk_mem_zipIdx_iff_getElem?.1 hp)⟩

section
variable {c : Commissioning}

theorem node_ordered (h : ∀ row ∈ nodeRows c, row.1) : c.warnTime < c.lossTime := by
  have hloss : item c.node 4 < item c.node 5 := h _ (List.mem_append_right _ (List.mem_singleton_self _))
  exact Nat.mul_lt_mul_of_pos_right hloss (by decide)

theorem limits_ordered (h : ∀ row ∈ limitRows c, row.1) :
    c.creep ≤ c.runThreshold ∧ c.runThreshold ≤ c.vmax ∧ c.lelAlarm < c.lelTrip := by
  simp only [limitRows, List.forall_mem_append, List.forall_mem_cons] at h
  obtain ⟨-, hcreep, hrun, hlel, -⟩ := h
  exact ⟨hcreep, hrun, hlel⟩

/-- The relations of GEOMETRY (R118, R119). -/
theorem geometry_ordered (h : ∀ row ∈ geometryRows c, row.1) :
    (1 ≤ c.zoneCount ∧ c.zoneCount ≤ 6 ∧ 1 ≤ c.rollCount ∧ c.rollCount ≤ 8)
      ∧ (∀ z < c.zoneCount, c.zoneStart z < c.zoneEnd z ∧ (z ≠ 0 → c.zoneEnd (z - 1) ≤ c.zoneStart z))
      ∧ (c.dryerEnd ≤ c.exitPosition ∧ c.exitPosition < c.chillExit)
      ∧ (∀ r < c.rollCount,
          (if r = 0 then c.exitPosition ≤ c.rollContact 0 else c.rollContact (r - 1) < c.rollContact r)
            ∧ (r + 1 = c.rollCount → c.rollContact r < c.chillExit))
      ∧ c.chillExit ≤ 120 * c.segmentLength ∧ c.vmax * c.period ≤ 4 * c.segmentLength * 1000000 := by
  simp only [geometryRows, List.forall_mem_append, List.forall_mem_cons, List.forall_mem_map, List.mem_range,
    forall_mem_rangeRows] at h
  obtain ⟨⟨⟨⟨hranges, hzones⟩, hexit, -⟩, hrolls⟩, hcapacity, hadvance, -⟩ := h
  have hzoneCount : 1 ≤ item c.geometry 0 ∧ item c.geometry 0 ≤ 6 := hranges 0 (1, 6) rfl
  have hrollCount : 1 ≤ item c.geometry 1 ∧ item c.geometry 1 ≤ 8 := hranges 1 (1, 8) rfl
  exact ⟨⟨hzoneCount.1, hzoneCount.2, hrollCount.1, hrollCount.2⟩,
    fun z hz => hzones z (hz.trans_le hzoneCount.2) hz, hexit, fun r hr => hrolls r (hr.trans_le hrollCount.2) hr,
    hcapacity, hadvance⟩

/-- The relations of CELL_MAP (R13). -/
theorem cellMap_ordered (h : ∀ row ∈ cellMapRows c, row.1) :
    (∀ i < 64, ∀ j < i, c.mapChannel i ≠ 0 → c.mapChannel j ≠ 0 →
        c.mapCell j ≠ c.mapCell i ∧ c.mapChannel j ≠ c.mapChannel i)
      ∧ (∃ k < 64, c.mapChannel k = 1) ∧ (∃ k < 64, c.mapChannel k = 3)
      ∧ (∀ z < 6, z < c.zoneCount → (∃ k < 64, c.mapChannel k = 7 + z) ∧ ∃ k < 64, c.mapChannel k = 32 + z)
      ∧ ∀ r < 8, r < c.rollCount → ∃ k < 64, c.mapChannel k = 45 + r := by
  simp only [cellMapRows, List.forall_mem_append, List.forall_mem_cons, List.forall_mem_map, List.mem_range] at h
  obtain ⟨⟨⟨-, hcells⟩, hchannels⟩, hmapped, -⟩ := h
  exact ⟨fun i hi j hj hused hused' => ⟨fun heq => hcells i hi ⟨hused, j, hj, hused', heq⟩,
    fun heq => hchannels i hi ⟨hused, j, hj, heq⟩⟩, hmapped⟩

end

/-! ### Chill supply max out of range (R135) -/

/-- The failure of the first check that does not pass. -/
theorem firstSome_of_getElem? {α : Type} {l : List (Option α)} {i : Nat} {a : α} (h : l[i]? = some (some a))
    (hbefore : ∀ j < i, l[j]? = some none) : firstSome l = some a := by
  induction l generalizing i with
  | nil => cases h
  | cons x rest ih =>
    cases i with
    | zero =>
      obtain rfl := Option.some.inj h
      rfl
    | succ i =>
      obtain rfl : x = none := Option.some.inj (hbefore 0 (Nat.succ_pos i))
      exact ih h fun j hj => hbefore (j + 1) (Nat.succ_lt_succ hj)

theorem checkRanges_eq_some {ws : List Word} {ranges : List (Nat × Nat)} {failure : Nat → Failure} {i : Nat}
    {range : Nat × Nat} (hrange : ranges[i]? = some range) (hout : ¬ (range.1 ≤ item ws i ∧ item ws i ≤ range.2))
    (hbefore : ∀ j r, j < i → ranges[j]? = some r → r.1 ≤ item ws j ∧ item ws j ≤ r.2) :
    checkRanges ws ranges failure = some (failure i) := by
  have hget (j : Nat) : (ranges.zipIdx.map fun p => check (itemIn ws p.2 p.1) (failure p.2))[j]? =
      ranges[j]?.map fun r => check (itemIn ws j r) (failure j) := by
    simp [List.getElem?_zipIdx, Function.comp_def]
  refine firstSome_of_getElem? (i := i) ?_ fun j hj => ?_
  · rw [hget, hrange, Option.map_some, check, if_neg (mt (itemIn_iff ws i range).1 hout)]
  · have hlt : j < ranges.length := hj.trans (List.getElem?_eq_some_iff.1 hrange).1
    have hj' := hbefore j _ hj (List.getElem?_eq_getElem hlt)
    rw [hget, List.getElem?_eq_getElem hlt, Option.map_some, check, if_pos ((itemIn_iff ..).2 hj')]

theorem validate_chillSupplyMax {c d : Commissioning} (hd : d.validate = none) (hnode : c.node = d.node)
    (hlimits : ∀ i, i ≠ 18 → item c.limits i = item d.limits i)
    (hout : c.chillSupplyMax < 50 ∨ 400 < c.chillSupplyMax) :
    c.validate = some ⟨4 * 256 + 1, 64⟩ := by
  have hchecks := (firstSome_eq_none _).1 hd
  have hnodePasses : checkNode c.node = none := hnode ▸ hchecks _ (by simp)
  have hranges : checkRanges d.limits limitRanges limitsOutOfRange = none :=
    (firstSome_eq_none _).1 (hchecks (checkLimits d.limits) (by simp)) _ (by simp)
  have hsupply : ¬ (50 ≤ item c.limits 18 ∧ item c.limits 18 ≤ 400) := fun h =>
    hout.elim (not_lt.2 h.1) (not_lt.2 h.2)
  have hfails : checkRanges c.limits limitRanges limitsOutOfRange = some (limitsOutOfRange 18) := by
    refine checkRanges_eq_some (range := (50, 400)) rfl hsupply fun j r hj hr => ?_
    rw [hlimits j hj.ne]
    exact (checkRanges_eq_none _ _ _).1 hranges j r hr
  have hlimitsFails : checkLimits c.limits = some (limitsOutOfRange 18) := by
    rw [checkLimits, hfails]
    rfl
  rw [Commissioning.validate, hnodePasses, hlimitsFails]
  rfl

/-- Settles O47: the relations from the rows that an accepted shadow meets, the report by `firstFailure_validate`. -/
theorem acceptedCommissioningIsOrdered : Obligations.AcceptedCommissioningIsOrdered := by
  refine ⟨fun c h => ?_, fun _ _ => validate_chillSupplyMax, firstFailure_validate⟩
  have hrows := (firstFailure_validate c).1.1 h
  simp only [List.forall_mem_append] at hrows
  obtain ⟨⟨⟨⟨hnode, hlimits⟩, hgeometry⟩, hmap⟩, -⟩ := hrows
  obtain ⟨hcreep, hrun, hlel⟩ := limits_ordered hlimits
  obtain ⟨hcounts, hzones, ⟨hdryer, hexit⟩, hrolls, hcapacity, hadvance⟩ := geometry_ordered hgeometry
  obtain ⟨hpairs, hspeed, hmode, hzoneCells, hrollCells⟩ := cellMap_ordered hmap
  have ⟨_, hzoneCount, hone, hrollCount⟩ := hcounts
  refine ⟨node_ordered hnode, hcreep, hrun, hlel, hcounts, hzones, hdryer, hexit, ?first, ?next, ?last, hcapacity,
    hadvance, ?pairs, ?fixed, ?zones, ?rolls⟩
  case first => exact (hrolls 0 hone).1
  case next =>
    intro r hr
    exact (if_neg (Nat.succ_ne_zero r)).mp (hrolls (r + 1) hr).1
  case last => exact (hrolls (c.rollCount - 1) (by omega)).2 (by omega)
  case pairs =>
    intro i hi j hj hne hused hused'
    rcases Nat.lt_or_gt_of_ne hne with hlt | hlt
    · exact hpairs j hj i hlt hused' hused
    · exact (hpairs i hi j hlt hused hused').imp Ne.symm Ne.symm
  case fixed => simp [cellOf_isSome_iff, hspeed, hmode]
  case zones =>
    intro z hz
    rw [cellOf_isSome_iff, cellOf_isSome_iff]
    exact hzoneCells z (hz.trans_le hzoneCount) hz
  case rolls =>
    intro r hr
    rw [cellOf_isSome_iff]
    exact hrollCells r (hr.trans_le hrollCount) hr

end Sys2Proof.Machine
end

section
/-!
SUPPORT. Proofs about READ (R166, R180): the words of the read-only tables, and the items of the tables by their words
(Tables 11.3, 12.3 and 12.5).
-/
namespace Sys2Proof.Machine

/-! ### The codes of STATUS (Table 12.3) -/

theorem requestNumber_eq_code (x : ModeRequest) : requestNumber x = x.code := by cases x <;> rfl

theorem zoneNumber_eq_code (x : ZoneState) : zoneNumber x = x.code := by cases x <;> rfl

theorem standNumber_eq_code (x : StandState) : standNumber x = x.code := by cases x <;> rfl

theorem resultNumber_eq_code (x : StoreResult) : resultNumber x = x.code := by cases x <;> rfl

theorem ZoneState.code_lt (x : ZoneState) : x.code < 16 := by cases x <;> decide

/-! ### STATUS -/

/-- Digit `i` of a number in base `p`. -/
theorem ofDigits_digit {p : Nat} {l : List Nat} (h : ∀ a ∈ l, a < p) (i : Nat) (hp : 0 < p) :
    Nat.ofDigits p l / p ^ i % p = l.getD i 0 := by
  induction l generalizing i with
  | nil => simp [Nat.ofDigits]
  | cons a l ih =>
    have ha : a < p := h a (.head _)
    rw [Nat.ofDigits_cons]
    cases i with
    | zero => simp [Nat.mod_eq_of_lt ha]
    | succ i =>
      have hshift : (a + p * Nat.ofDigits p l) / p = Nat.ofDigits p l := by
        rw [Nat.add_mul_div_left _ _ hp, Nat.div_eq_of_lt ha, Nat.zero_add]
      rw [Nat.pow_succ', ← Nat.div_div_eq_div_mul, hshift, ih (fun b hb => h b (.tail _ hb)), List.getD_cons_succ]

/-- Four bits for each zone, zone 0 lowest. -/
theorem zoneNibbles_eq (zs : List ZoneState) :
    zoneNibbles zs = Nat.ofDigits 16 (tabulate 6 fun z => (zs.getD z .off).code) := by
  rw [Nat.ofDigits_eq_sum_mapIdx]
  rfl

theorem zone_codes_lt (zs : List ZoneState) : ∀ a ∈ tabulate 6 fun z => (zs.getD z .off).code, a < 16 :=
  forall_mem_tabulate.2 fun _ _ => ZoneState.code_lt _

theorem zoneNibbles_digit (zs : List ZoneState) {z : Nat} (hz : z < 6) :
    zoneNibbles zs / 16 ^ z % 16 = (zs.getD z .off).code := by
  rw [zoneNibbles_eq, ofDigits_digit (zone_codes_lt zs) z (by decide), tabulate_getD _ _ hz]

theorem zoneNibbles_lt (zs : List ZoneState) : zoneNibbles zs < 2 ^ 24 := by
  have h := Nat.ofDigits_lt_base_pow_length (by decide) (zone_codes_lt zs)
  rw [tabulate_length] at h
  rw [zoneNibbles_eq]
  exact h.trans_eq (by norm_num)

/-- The bits of the pending set's mask. -/
theorem pendingMask_getLsbD_all : ∀ comm zones exhaust chill dose clear : Bool, ∀ b : Fin 32,
    (BitVec.ofNat 32 (pendingMask ⟨comm, zones, exhaust, chill, dose⟩ clear)).getLsbD b =
      ((decide (1 ≤ b.val) && decide (b.val ≤ 7) && comm) || (decide (b.val = 10) && zones)
        || (decide (b.val = 11) && exhaust) || (decide (b.val = 12) && chill) || (decide (b.val = 13) && dose)
        || (decide (b.val = 31) && clear)) := by decide

theorem pendingMask_getLsbD (p : PendingSet) (clear : Bool) {b : Nat} (hb : b < 32) :
    (BitVec.ofNat 32 (pendingMask p clear)).getLsbD b = true ↔
      (1 ≤ b ∧ b ≤ 7 ∧ p.comm = true) ∨ (b = 10 ∧ p.zoneCurves = true) ∨ (b = 11 ∧ p.exhaustCurve = true)
        ∨ (b = 12 ∧ p.chillCurves = true) ∨ (b = 13 ∧ p.doseWindows = true) ∨ (b = 31 ∧ clear = true) := by
  rw [pendingMask_getLsbD_all p.comm p.zoneCurves p.exhaustCurve p.chillCurves p.doseWindows clear ⟨b, hb⟩]
  simp only [Bool.or_eq_true, Bool.and_eq_true, decide_eq_true_eq, or_assoc, and_assoc]

/-- Word 2 of STATUS: the states, one byte each. -/
theorem statusWords_states (v : View) :
    v.statusWords.getD 2 0 = BitVec.ofNat 32 (2 ^ 24 * nodeNumber v.node + 2 ^ 16 * dryerNumber v.dryer
      + 2 ^ 8 * requestNumber v.held + standNumber v.stand) := by
  rw [nodeNumber_eq_code, dryerNumber_eq_code, requestNumber_eq_code, standNumber_eq_code, Nat.mul_comm (2 ^ 24),
    Nat.mul_comm (2 ^ 16), Nat.mul_comm (2 ^ 8)]
  rfl

/-- Words 7 and 8 of STATUS: two tags each. -/
theorem ofNat_tags (upper lower : Nat) :
    BitVec.ofNat 32 (upper * 65536 + lower) = BitVec.ofNat 32 (2 ^ 16 * upper + lower) := by
  rw [Nat.mul_comm]
  rfl

/-- The words of STATUS. -/
theorem statusHolds_statusWords (v : View) : statusHolds v v.statusWords := by
  have hzones : (BitVec.ofNat 32 (zoneNibbles v.zones)).toNat = zoneNibbles v.zones :=
    (BitVec.toNat_ofNat ..).trans (Nat.mod_eq_of_lt ((zoneNibbles_lt _).trans (by norm_num)))
  refine ⟨rfl, rfl, rfl, statusWords_states v, fun z hz => ?zone, ?zones, rfl, rfl, rfl, ofNat_tags _ _, ofNat_tags _ _,
    ?trip, BitVec.ofNat_toNat .., BitVec.ofNat_toNat .., BitVec.ofNat_toNat .., fun b => pendingMask_getLsbD _ _,
    ?store, BitVec.ofNat_toNat .., rfl, rfl, rfl, rfl, rfl⟩
  case zone =>
    rw [zoneNumber_eq_code, ← zoneNibbles_digit v.zones hz, ← hzones]
    rfl
  case zones => exact hzones.trans_lt (zoneNibbles_lt _)
  case trip =>
    refine congrArg (BitVec.ofNat 32) (congrArg (_ + ·) (congrArg (256 * ·) ?_))
    cases v.firstCause with
    | none => rfl
    | some c => exact congrArg (· + 1) (causeNumber_eq_bit c).symm
  case store =>
    rw [resultNumber_eq_code]
    rfl

/-! ### TRACK -/

theorem getD_flatten_const {α : Type} {n : Nat} {ls : List (List α)} (h : ∀ l ∈ ls, l.length = n) {i k : Nat}
    (hi : i < ls.length) (hk : k < n) (d : α) : ls.flatten.getD (n * i + k) d = (ls.getD i []).getD k d := by
  induction ls generalizing i with
  | nil => cases hi
  | cons l ls ih =>
    have hl : l.length = n := h l (.head _)
    rw [List.flatten_cons]
    cases i with
    | zero =>
      rw [Nat.mul_zero, Nat.zero_add, List.getD_append _ _ _ _ (by omega), List.getD_cons_zero]
    | succ i =>
      rw [List.getD_append_right _ _ _ _ (by rw [hl, Nat.mul_succ]; omega), hl, Nat.mul_succ,
        show n * i + n + k - n = n * i + k by omega, List.getD_cons_succ]
      exact ih (fun l' hl' => h l' (.tail _ hl')) (Nat.lt_of_succ_lt_succ hi)

theorem trackWords_getD (v : View) {i k : Nat} (hi : i < 128) (hk : k < 4) :
    v.trackWords.getD (4 * i + k) 0 = (trackEntry v.records i).getD k 0 := by
  rw [View.trackWords, getD_flatten_const (forall_mem_tabulate.2 fun i _ => trackEntry_length v.records i)
    (by rwa [tabulate_length]) hk, tabulate_getD _ _ hi]

theorem bit_lt (b : Bool) : bit b < 2 := by cases b <;> decide

/-- A reason's code − 1 is its place among the reasons. -/
theorem sum_reasons (f : WasteReason → Nat) (p : Nat) :
    (allReasons.map fun r => f r * p ^ (r.code - 1)).sum = ((allReasons.map f).mapIdx fun i a => a * p ^ i).sum := by
  simp [allReasons, WasteReason.code]

/-- The reason set in base 2. -/
theorem reasonMask_eq (rs : List WasteReason) :
    reasonMask rs = Nat.ofDigits 2 (allReasons.map fun r => bit (rs.contains r)) := by
  rw [Nat.ofDigits_eq_sum_mapIdx]
  exact sum_reasons _ 2

theorem reason_bits_lt (rs : List WasteReason) : ∀ a ∈ allReasons.map fun r => bit (rs.contains r), a < 2 :=
  List.forall_mem_map.2 fun _ _ => bit_lt _

theorem reasonMask_lt (rs : List WasteReason) : reasonMask rs < 1024 := by
  have h := Nat.ofDigits_lt_base_pow_length (by decide) (reason_bits_lt rs)
  rw [List.length_map] at h
  rw [reasonMask_eq]
  exact h.trans_eq (by decide)

/-- The bit of a reason is its code − 1 (Table 12.3). -/
theorem reasonMask_digit (rs : List WasteReason) (r : WasteReason) :
    reasonMask rs / 2 ^ (r.code - 1) % 2 = bit (rs.contains r) := by
  rw [reasonMask_eq, ofDigits_digit (reason_bits_lt rs) _ (by decide)]
  cases r <;> rfl

/-- The first word of an entry, from its lowest field up (Table 12.5). -/
theorem headWord_eq (judged exit chill cls mask seq : Nat) :
    2 ^ 31 + judged * 2 ^ 30 + exit * 2 ^ 29 + chill * 2 ^ 28 + cls * 2 ^ 26 + mask * 2 ^ 16 + seq =
      seq + 65536 * (mask + 1024 * (cls + 4 * (chill + 2 * (exit + 2 * (judged + 2))))) := by ring

theorem ofNat_getLsbD (n : Nat) {i : Nat} (hi : i < 32) :
    (BitVec.ofNat 32 n).getLsbD i = decide (n / 2 ^ i % 2 = 1) := by
  rw [BitVec.getLsbD_ofNat, Nat.testBit_eq_decide_div_mod_eq, decide_eq_true hi, Bool.true_and]

theorem decide_bit (b : Bool) : decide (bit b = 1) = b := by cases b <;> rfl

section
variable (g : Segment)

/-- The number in the first word of an entry. -/
def Segment.head (g : Segment) : Nat :=
  g.seq.toNat + 65536 * (reasonMask g.reasons + 1024 * (g.cls % 4
    + 4 * (bit g.chillTemp.isSome + 2 * (bit g.exitTemp.isSome + 2 * (bit g.judged + 2)))))

theorem Segment.words_head : g.words.getD 0 0 = BitVec.ofNat 32 g.head := congrArg (BitVec.ofNat 32) (headWord_eq ..)

/-- The fields of the first word. -/
theorem Segment.head_fields :
    g.head < 2 ^ 32 ∧ g.head / 2 ^ 31 % 2 = 1 ∧ g.head / 2 ^ 30 % 2 = bit g.judged
      ∧ g.head / 2 ^ 29 % 2 = bit g.exitTemp.isSome ∧ g.head / 2 ^ 28 % 2 = bit g.chillTemp.isSome
      ∧ g.head / 2 ^ 26 % 4 = g.cls % 4 ∧ g.head / 2 ^ 16 % 1024 = reasonMask g.reasons
      ∧ g.head % 2 ^ 16 = g.seq.toNat := by
  have hjudged := bit_lt g.judged
  have hexit := bit_lt g.exitTemp.isSome
  have hchill := bit_lt g.chillTemp.isSome
  have hcls : g.cls % 4 < 4 := Nat.mod_lt _ (by decide)
  have hmask := reasonMask_lt g.reasons
  have hseq : g.seq.toNat < 65536 := g.seq.isLt
  unfold Segment.head
  omega

theorem Segment.head_reason (r : WasteReason) :
    g.head / 2 ^ (15 + r.code) % 2 = bit (g.reasons.contains r) := by
  obtain ⟨-, -, -, -, -, -, hmask, -⟩ := g.head_fields
  rw [← reasonMask_digit, ← hmask]
  cases r <;> simp only [WasteReason.code] <;> omega

end

theorem halves_toNat (hi lo : Half) : (halves hi lo).toNat = hi.toNat * 65536 + lo.toNat := by
  have hhi : hi.toNat < 65536 := hi.isLt
  have hlo : lo.toNat < 65536 := lo.isLt
  exact (BitVec.toNat_ofNat ..).trans (Nat.mod_eq_of_lt (by omega))

theorem tempBits_eq (t : Option Int) : tempBits t = BitVec.ofInt 16 (t.getD 0) := by cases t <;> rfl

/-- The words of TRACK. -/
theorem trackHolds_trackWords (v : View) : trackHolds v v.trackWords := by
  refine ⟨trackWords_length v, fun i hi hempty k hk => ?_, fun i hi g hg => ?_⟩
  · have hentry : trackEntry v.records i = [0, 0, 0, 0] := by rw [trackEntry, List.getElem?_eq_none hempty]
    refine (trackWords_getD v hi hk).trans ?_
    rw [hentry]
    interval_cases k <;> rfl
  · have hword {k : Nat} (hk : k < 4) : v.trackWords.getD (4 * i + k) 0 = g.words.getD k 0 := by
      rw [trackWords_getD v hi hk, trackEntry, hg]
    obtain ⟨hlt, h31, h30, h29, h28, hcls, -, hseq⟩ := g.head_fields
    have hhead : v.trackWords.getD (4 * i + 0) 0 = BitVec.ofNat 32 g.head := (hword (by decide)).trans g.words_head
    have hnat : (v.trackWords.getD (4 * i + 0) 0).toNat = g.head := by
      rw [hhead, BitVec.toNat_ofNat, Nat.mod_eq_of_lt hlt]
    have hbit {b : Nat} (hb : b < 32) :
        (v.trackWords.getD (4 * i + 0) 0).getLsbD b = decide (g.head / 2 ^ b % 2 = 1) := by
      rw [hhead, ofNat_getLsbD _ hb]
    have htemps : (v.trackWords.getD (4 * i + 3) 0).toNat =
        (tempBits g.exitTemp).toNat * 65536 + (tempBits g.chillTemp).toNat := by
      rw [hword (by decide)]
      exact halves_toNat _ _
    have hlo : (tempBits g.chillTemp).toNat < 65536 := (tempBits g.chillTemp).isLt
    refine ⟨?_, ?_, ?_, ?_, fun hrange => ?_, fun r => ?_, ?_, hword (by decide), hword (by decide), ?_, ?_⟩
    · exact (hbit (by decide)).trans (by rw [h31]; rfl)
    · exact (hbit (by decide)).trans (by rw [h30, decide_bit])
    · exact (hbit (by decide)).trans (by rw [h29, decide_bit])
    · exact (hbit (by decide)).trans (by rw [h28, decide_bit])
    · dsimp only
      rw [hnat, hcls, Nat.mod_eq_of_lt (by omega)]
    · have hcode : reasonNumber (some r) = r.code := reasonNumber_eq_code (some r)
      have hle : 15 + r.code < 32 := by cases r <;> decide
      rw [hcode]
      refine (hbit hle).trans ?_
      rw [g.head_reason, decide_bit, List.contains_eq_mem]
    · dsimp only
      rw [hnat, hseq]
    · dsimp only
      rw [htemps, ← tempBits_eq]
      omega
    · dsimp only
      rw [htemps, ← tempBits_eq]
      omega

/-! ### COUNTERS and IDENTITY -/

theorem identityWords_eq (revision : Word) (serial : BitVec 48) :
    identityWords revision serial =
      [0x524A, 6, 640, revision, (serial >>> 32).setWidth 32, serial.setWidth 32] := by
  have hupper : BitVec.ofNat 32 (serial.toNat / 2 ^ 32) = (serial >>> 32).setWidth 32 := by
    rw [← BitVec.ofNat_toNat, BitVec.toNat_ushiftRight, Nat.shiftRight_eq_div_pow]
  have hlower : BitVec.ofNat 32 (serial.toNat % 2 ^ 32) = serial.setWidth 32 := by
    rw [← BitVec.ofNat_toNat]
    exact BitVec.eq_of_toNat_eq (by simp)
  rw [identityWords, hupper, hlower]

theorem siliconRevision_pos : 1 ≤ Config.siliconRevision.toNat := by
  have hlt := Config.revisionFromZero.isLt
  rw [Config.siliconRevision, BitVec.toNat_ofNat, Nat.mod_eq_of_lt (by omega)]
  omega

/-! ### The tables and their items (Tables 11.3 and 12.5) -/

theorem ofCode_eq_some {n : Nat} {tb : TableId} : TableId.ofCode n = some tb ↔ n = tb.code := by
  constructor
  · intro h
    unfold TableId.ofCode at h
    split at h <;> cases h <;> rfl
  · rintro rfl
    cases tb <;> rfl

theorem ofCode_iff_mem_tableRows (n : Nat) (tb : TableId) :
    TableId.ofCode n = some tb ↔ (n, tb, tb.cls, tb.entries, tb.entryWords) ∈ tableRows := by
  rw [ofCode_eq_some]
  cases tb <;> simp [tableRows, TableId.code, TableId.cls, TableId.entries, TableId.entryWords]

theorem LineMode.ofCode_idxOf {n : Nat} (h : n ≤ 5) :
    n = [LineMode.unused, .rising, .falling, .both, .high, .low].idxOf (LineMode.ofCode n) := by
  interval_cases n <;> rfl

theorem LineAction.ofCode_idxOf {n : Nat} (h : n ≤ 1) :
    n = [LineAction.trip, .notice].idxOf (LineAction.ofCode n) := by
  interval_cases n <;> rfl

theorem commissioningItems_holds (c : Commissioning) : commissioningItems c := by
  refine ⟨⟨rfl, rfl, rfl, rfl, rfl, rfl, rfl, rfl⟩, ⟨rfl, rfl, rfl, rfl, rfl, fun _ _ => ⟨rfl, rfl⟩, fun _ _ => rfl,
    rfl, fun z => ⟨decide_eq_true_iff, mem_activeZones c z⟩, fun r => decide_eq_true_iff⟩, fun _ _ => ⟨rfl, rfl⟩, ?limits,
    fun k _ => ⟨?mode, ?action, rfl⟩, fun _ _ => ⟨rfl, rfl, rfl, rfl, rfl⟩, rfl, rfl, rfl, rfl, fun _ _ => ⟨rfl, rfl⟩⟩
  case limits =>
    refine ⟨rfl, rfl, rfl, rfl, rfl, rfl, rfl, rfl, rfl, rfl, rfl, rfl, rfl, rfl, rfl, rfl, rfl, rfl, rfl,
      fun z _ => ?_⟩
    have hitem {i j : Nat} (h : i = j) : item c.limits i = (c.limits.getD j 0).toNat := by rw [h]; rfl
    exact ⟨hitem (by omega), hitem (by omega), hitem (by omega), hitem (by omega), hitem (by omega), hitem (by omega),
      hitem (by omega), hitem (by omega), hitem (by omega)⟩
  case mode =>
    rintro _ rfl hmode
    exact LineMode.ofCode_idxOf hmode
  case action =>
    rintro _ rfl haction
    exact LineAction.ofCode_idxOf haction

/-- The breakpoints of a curve are those within its count. -/
theorem breakpoints {α : Type} {most n : Nat} (h : n ≤ most) (f : Nat → α) :
    (tabulate (min most n) f).length = n ∧ ∀ i < n, (tabulate (min most n) f)[i]? = some (f i) := by
  rw [Nat.min_eq_right h]
  exact ⟨tabulate_length _ _, fun i hi => by simp [tabulate, hi]⟩

theorem recipeItems_holds (r : Recipe) : recipeItems r :=
  ⟨⟨rfl, fun _ _ => ⟨rfl, fun h _ _ _ => breakpoints h _⟩⟩, ⟨rfl, rfl, fun h => breakpoints h _⟩,
    ⟨rfl, rfl, rfl, rfl, rfl, fun _ _ => ⟨rfl, fun h => breakpoints h _⟩⟩,
    rfl, fun _ _ => ⟨rfl, rfl, rfl, rfl, rfl⟩⟩

/-! ### READ (R166) -/

/-- A READ that passes the checks, of an option that its table allows. -/
theorem serveRead_done {s : State} {r : Request} {tb : TableId} (hcheck : commonCheck .read r = none)
    (hnamed : TableId.ofCode r.table.toNat = some tb)
    (hoption : tb.cls = .commissioning ∨ tb.cls = .recipe → r.option = 0 ∨ r.option = 1) :
    serveRead r s = (s, ⟨.done, s.viewNumber tb,
      entriesOf (s.content tb (r.option == 1)) tb.entryWords r.index.toNat r.count.toNat⟩) := by
  have hnot : ¬ (tb.hasCopies = true ∧ r.option ≠ 0 ∧ r.option ≠ 1) := fun ⟨hcopies, hactive, hshadow⟩ =>
    (hoption (tb.hasCopies_iff.1 hcopies)).elim hactive hshadow
  rw [serveRead, s.checked_passes hcheck, onTable_named hnamed, if_neg hnot]

theorem viewNumber_eq (s : State) (tb : TableId) :
    s.viewNumber tb = if tb = .status ∨ tb = .track ∨ tb = .counters then s.engine.view.publication else 0 := by
  cases tb <;> rfl

/-- Settles O42: a READ returns the entries of `State.content`, which holds the words of each table. -/
theorem readReturnsTheEntries : Obligations.ReadReturnsTheEntries := by
  refine ⟨fun s r tb hrun hnamed hcount hentries hlength hoption => ?_, ofCode_iff_mem_tableRows,
    fun t => ⟨rfl, rfl, rfl, rfl, rfl, rfl, rfl, rfl, rfl, rfl, rfl⟩, commissioningItems_holds, recipeItems_holds⟩
  have hcheck : commonCheck .read r = none := accessCheck_passes hnamed tb.cls.bars_read hcount hentries hlength
  refine ⟨_, s.content tb (r.option == 1), next_request hrun (serveRead_done hcheck hnamed hoption), rfl, rfl,
    viewNumber_eq s tb, fun hcopies => ?copy, ?report, ?status, ?track, ?counters, ?identity⟩
  case copy =>
    rw [content_of_copies s hcopies]
    rcases hoption hcopies with hactive | hshadow
    · rw [hactive]; rfl
    · rw [hshadow]; rfl
  case report =>
    rintro rfl
    exact congrArg (fun w => [w]) (BitVec.ofNat_toNat ..)
  case status =>
    rintro rfl
    exact statusHolds_statusWords _
  case track =>
    rintro rfl
    exact trackHolds_trackWords _
  case counters =>
    rintro rfl
    rfl
  case identity =>
    rintro rfl
    exact ⟨identityWords_eq _ _, siliconRevision_pos⟩

end Sys2Proof.Machine
end

section
/-!
SUPPORT. Proofs about line frames as bytes (R179): the layout of Tables 12.1 and 12.2, and that writing and reading a
line frame undo each other.
-/
namespace Sys2Proof.Machine

/-! ### The layout (Tables 12.1 and 12.2) -/

theorem natToBytes_eq_bigEndian (n v : Nat) : natToBytes n v = bigEndian n v := by
  induction n with
  | zero => rfl
  | succ n ih =>
    rw [natToBytes, ih, bigEndian, bigEndian, List.range_succ_eq_map, List.map_cons, List.map_map]
    refine congrArg (BitVec.ofNat 8 (v / 256 ^ n) :: ·) (List.map_congr_left fun i _ => ?_)
    have hplace : n + 1 - 1 - (i + 1) = n - 1 - i := by omega
    rw [Function.comp_apply, hplace]

theorem cellBytes_eq_layout : cellBytes = fun c => bigEndian 2 c.value.toNat ++ [c.quality] :=
  funext fun c => by rw [cellBytes, natToBytes_eq_bigEndian]

theorem wordBytes_eq_bigEndian : wordBytes = fun w => bigEndian 4 w.toNat :=
  funext fun w => natToBytes_eq_bigEndian 4 w.toNat

theorem recordBytes_eq_layout : recordBytes = recordLayout :=
  funext fun r => by simp only [recordBytes, recordLayout, wordBytes_eq_bigEndian, natToBytes_eq_bigEndian]

theorem FrameKind.code_eq (kind : FrameKind) : kind.code = if kind = .cycle then 1 else 2 := by cases kind <;> rfl

theorem frameBytes_eq_layout (f : LineFrame) : frameBytes f = frameLayout f := by
  simp only [frameBytes, frameLayout, FrameKind.code_eq, natToBytes_eq_bigEndian, cellBytes_eq_layout,
    recordBytes_eq_layout]

/-! ### A frame written and read -/

theorem wellFormed_iff (f : LineFrame) :
    f.wellFormed = true ↔ f.cells.length ≤ 256 ∧ f.records.length ≤ 8 ∧ (f.kind = .service → f.cells = [])
      ∧ ∀ r ∈ f.records, r.payload.length ≤ 16 := by
  cases hkind : f.kind <;> simp [LineFrame.wellFormed, hkind, and_assoc]

/-- The header, the cells and the records written are the ones read, and what follows them is the padding. -/
theorem parseFrame_frameBytes {f : LineFrame} (h : f.wellFormed = true) : parseFrame (frameBytes f) = some f := by
  obtain ⟨hcells, hrecords, hservice, hpayload⟩ := (wellFormed_iff f).1 h
  have hdeclared : (BitVec.ofNat 8 f.records.length).toNat = f.records.length := by
    rw [BitVec.toNat_ofNat, Nat.mod_eq_of_lt (by omega)]
  have hlane : parseRecords f.records.length (f.records.flatMap recordBytes ++ f.padding) =
      some (f.records, f.padding) := by
    have hread := parseRecords_flatMap f.records 0 f.padding hpayload
    rwa [parseRecords, Option.map_some, List.append_nil] at hread
  rw [frameBytes, List.append_assoc _ _ f.padding, List.append_assoc _ _ (_ ++ f.padding),
    parseFrame_header _ _ _ _ _ hcells (hdeclared.trans_le hrecords) fun hkind => by rw [hservice hkind]; rfl]
  simp only [parseLanes, parseCells_flatMap, hdeclared, hlane]

/-- Settles O11: the fields come back part by part, and the bytes are those of the layout. -/
theorem parseOfFrameBytes : Obligations.ParseOfFrameBytes := by
  intro f hcells hrecords hservice hpayload
  have hformed := (wellFormed_iff f).2 ⟨hcells, hrecords, hservice, hpayload⟩
  exact ⟨hformed, parseFrame_frameBytes hformed, frameBytes_eq_layout f⟩

/-! ### Numbers read and written -/

/-- The last byte of a number. -/
theorem natToBytes_succ (n v : Nat) : natToBytes (n + 1) v = natToBytes n (v / 256) ++ [BitVec.ofNat 8 v] := by
  induction n with
  | zero => simp [natToBytes]
  | succ n ih =>
    rw [natToBytes, ih, natToBytes, List.cons_append, Nat.div_div_eq_div_mul, Nat.pow_succ']

theorem bytesToNat_append (bs : List Byte) (b : Byte) : bytesToNat (bs ++ [b]) = bytesToNat bs * 256 + b.toNat := by
  rw [bytesToNat, List.foldl_append]
  rfl

theorem bytesToNat_lt (bs : List Byte) : bytesToNat bs < 256 ^ bs.length := by
  induction bs using List.reverseRecOn with
  | nil => simp [bytesToNat]
  | append_singleton bs b ih =>
    rw [bytesToNat_append, List.length_append, List.length_singleton, Nat.pow_succ]
    have hb := b.isLt
    omega

/-- The bytes of the number that a byte string spells are that string. -/
theorem natToBytes_bytesToNat {n : Nat} {bs : List Byte} (hlen : bs.length = n) :
    natToBytes n (bytesToNat bs) = bs := by
  subst hlen
  induction bs using List.reverseRecOn with
  | nil => rfl
  | append_singleton bs b ih =>
    have hb := b.isLt
    have hlast : BitVec.ofNat 8 (bytesToNat bs * 256 + b.toNat) = b :=
      BitVec.eq_of_toNat_eq (by rw [BitVec.toNat_ofNat]; omega)
    have hrest : (bytesToNat bs * 256 + b.toNat) / 256 = bytesToNat bs := by omega
    rw [bytesToNat_append, List.length_append, List.length_singleton, natToBytes_succ, hrest, ih, hlast]

/-- A number read into a field wide enough for its bytes is written as those bytes. -/
theorem natToBytes_ofNat_bytesToNat {n w : Nat} {bs : List Byte} (hlen : bs.length = n) (hw : 256 ^ n ≤ 2 ^ w) :
    natToBytes n (BitVec.ofNat w (bytesToNat bs)).toNat = bs := by
  have hlt : bytesToNat bs < 2 ^ w := (bytesToNat_lt bs).trans_le (hlen ▸ hw)
  rw [BitVec.toNat_ofNat, Nat.mod_eq_of_lt hlt, natToBytes_bytesToNat hlen]

theorem length_take_drop {bs : List Byte} {i n : Nat} (h : i + n ≤ bs.length) : ((bs.drop i).take n).length = n :=
  List.length_take_of_le (by rw [List.length_drop]; omega)

/-! ### Cells read and written -/

theorem cellBytes_of_bytes {c : List Byte} (h : c.length = 3) :
    cellBytes ⟨BitVec.ofNat 16 (numberAt c 0 2), byteAt c 2⟩ = c := by
  obtain ⟨high, low, quality, rfl⟩ := List.length_eq_three.1 h
  exact congrArg (· ++ [quality]) (natToBytes_ofNat_bytesToNat (bs := [high, low]) rfl (by norm_num))

theorem flatMap_cellBytes_of_parse {n : Nat} {bs rest : List Byte} {cells : List Cell}
    (h : parseCells n bs = some (cells, rest)) : cells.flatMap cellBytes ++ rest = bs := by
  induction n generalizing bs cells with
  | zero =>
    obtain ⟨rfl, rfl⟩ := Prod.mk.inj (Option.some.inj h)
    rfl
  | succ n ih =>
    rw [parseCells] at h
    split at h
    · cases h
    · next front back hsplit =>
      obtain ⟨hlen, rfl⟩ := splitBytes_eq_some hsplit
      split at h
      · cases h
      · next tail rest' htail =>
        obtain ⟨rfl, rfl⟩ := Prod.mk.inj (Option.some.inj h)
        rw [List.flatMap_cons, cellBytes_of_bytes hlen, List.append_assoc, ih htail]

/-! ### Records read and written -/

theorem bytesToWords_length (n : Nat) (bs : List Byte) : (bytesToWords n bs).length = n := by
  induction n generalizing bs with
  | zero => rfl
  | succ n ih => rw [bytesToWords, List.length_cons, ih]

theorem flatMap_wordBytes_of_bytes {n : Nat} {bs : List Byte} (h : bs.length = 4 * n) :
    (bytesToWords n bs).flatMap wordBytes = bs := by
  induction n generalizing bs with
  | zero => rw [List.length_eq_zero_iff.1 h]; rfl
  | succ n ih =>
    have hfront : (bs.take 4).length = 4 := List.length_take_of_le (by omega)
    rw [bytesToWords, List.flatMap_cons, wordBytes, natToBytes_ofNat_bytesToNat hfront (by norm_num),
      ih (by rw [List.length_drop]; omega), List.take_append_drop]

/-- The head and the payload bytes of a record come back from its fields. -/
theorem recordBytes_recordOf {head body : List Byte} (hhead : head.length = 20)
    (hbody : body.length = 4 * (byteAt head 15).toNat) : recordBytes (recordOf head body) = head ++ body := by
  have hwords : body.length / 4 = (byteAt head 15).toNat := by omega
  have hpayload : (recordOf head body).payload = bytesToWords (byteAt head 15).toNat body := by
    rw [← hwords]; rfl
  have hcount : BitVec.ofNat 8 (recordOf head body).payload.length = byteAt head 15 := by
    rw [hpayload, bytesToWords_length, BitVec.ofNat_toNat, BitVec.setWidth_eq]
  have hnumber (i n : Nat) {w : Nat} (hfits : i + n ≤ 20) (hw : 256 ^ n ≤ 2 ^ w) :
      natToBytes n (BitVec.ofNat w (numberAt head i n)).toNat = (head.drop i).take n :=
    natToBytes_ofNat_bytesToNat (length_take_drop (by omega)) hw
  have haddress : natToBytes 6 (recordOf head body).address.toNat = (head.drop 4).take 6 :=
    hnumber 4 6 (by norm_num) (by norm_num)
  have hindex : natToBytes 2 (recordOf head body).index.toNat = (head.drop 10).take 2 :=
    hnumber 10 2 (by norm_num) (by norm_num)
  have hview : natToBytes 4 (recordOf head body).view.toNat = (head.drop 16).take 4 :=
    hnumber 16 4 (by norm_num) (by norm_num)
  rw [recordBytes_eq, recordHead, hcount, haddress, hindex, hview, hpayload, flatMap_wordBytes_of_bytes hbody]
  match head, hhead with
  | [_, _, _, _, _, _, _, _, _, _, _, _, _, _, _, _, _, _, _, _], _ => rfl

theorem recordBytes_of_parse {bs rest : List Byte} {r : Record} (h : parseRecord bs = some (r, rest)) :
    recordBytes r ++ rest = bs := by
  unfold parseRecord at h
  split at h
  · cases h
  · next head tail hsplit =>
    obtain ⟨hhead, rfl⟩ := splitBytes_eq_some hsplit
    split at h
    · cases h
    · split at h
      · cases h
      · next body rest' hbody =>
        obtain ⟨hlen, rfl⟩ := splitBytes_eq_some hbody
        obtain ⟨rfl, rfl⟩ := Prod.mk.inj (Option.some.inj h)
        rw [recordBytes_recordOf hhead hlen, List.append_assoc]

theorem flatMap_recordBytes_of_parse {n : Nat} {bs rest : List Byte} {records : List Record}
    (h : parseRecords n bs = some (records, rest)) :
    records.length = n ∧ records.flatMap recordBytes ++ rest = bs := by
  induction n generalizing bs records with
  | zero =>
    obtain ⟨rfl, rfl⟩ := Prod.mk.inj (Option.some.inj h)
    exact ⟨rfl, rfl⟩
  | succ n ih =>
    rw [parseRecords] at h
    split at h
    · cases h
    · next r tail hrecord =>
      split at h
      · cases h
      · next rs rest' htail =>
        obtain ⟨rfl, rfl⟩ := Prod.mk.inj (Option.some.inj h)
        obtain ⟨hlen, hbytes⟩ := ih htail
        exact ⟨by rw [List.length_cons, hlen],
          by rw [List.flatMap_cons, List.append_assoc, hbytes, recordBytes_of_parse hrecord]⟩

/-! ### A frame read and written -/

/-- The lanes read are the lanes written, and as many of each as the header says. -/
theorem lanes_of_parse {kind : FrameKind} {number : BitVec 32} {cells records : Nat} {bs : List Byte} {f : LineFrame}
    (h : parseLanes kind number cells records bs = some f) :
    f.kind = kind ∧ f.number = number ∧ f.cells.length = cells ∧ f.records.length = records
      ∧ f.cells.flatMap cellBytes ++ (f.records.flatMap recordBytes ++ f.padding) = bs := by
  unfold parseLanes at h
  split at h
  · cases h
  · next cs rest hcells =>
    split at h
    · cases h
    · next rs padding hrecords =>
      obtain rfl := Option.some.inj h
      obtain ⟨hlen, hbytes⟩ := flatMap_recordBytes_of_parse hrecords
      exact ⟨rfl, rfl, (parseCells_eq_some hcells).1, hlen, by rw [hbytes, flatMap_cellBytes_of_parse hcells]⟩

/-- A payload that parses is nine bytes of header, and the lanes that they describe. -/
theorem lanes_of_parseFrame {bs : List Byte} {f : LineFrame} (h : parseFrame bs = some f) :
    ∃ head rest, bs = head ++ rest ∧ head.length = 9 ∧ byteAt head 0 = 1 ∧ byteAt head 1 = f.kind.code
      ∧ parseLanes f.kind (BitVec.ofNat 32 (numberAt head 2 4)) (numberAt head 6 2) (byteAt head 8).toNat rest
        = some f := by
  unfold parseFrame at h
  split at h
  · cases h
  · next head rest hsplit =>
    obtain ⟨hlen, rfl⟩ := splitBytes_eq_some hsplit
    split at h
    · cases h
    · next kind hkind =>
      split at h
      · cases h
      · next hchecks =>
        obtain rfl := (parseLanes_eq_some h).1
        exact ⟨head, rest, rfl, hlen, not_not.1 (not_or.1 hchecks).1, FrameKind.ofCode_eq_some hkind, h⟩

/-- Settles O12: header, cells and records are each written as they were read. -/
theorem frameBytesOfParse : Obligations.FrameBytesOfParse := by
  intro bs f h
  obtain ⟨head, rest, rfl, hlen, hversion, hkind, hlanes⟩ := lanes_of_parseFrame h
  obtain ⟨-, hnumber, hcells, hrecords, hbytes⟩ := lanes_of_parse hlanes
  have hcount : natToBytes 2 (numberAt head 6 2) = (head.drop 6).take 2 :=
    natToBytes_bytesToNat (length_take_drop (by omega))
  have hnumber' : natToBytes 4 f.number.toNat = (head.drop 2).take 4 := by
    rw [hnumber]
    exact natToBytes_ofNat_bytesToNat (length_take_drop (by omega)) (by norm_num)
  have hdeclared : BitVec.ofNat 8 (byteAt head 8).toNat = byteAt head 8 := by
    rw [BitVec.ofNat_toNat, BitVec.setWidth_eq]
  have hheader : [1, f.kind.code] ++ natToBytes 4 f.number.toNat ++ natToBytes 2 f.cells.length
      ++ [BitVec.ofNat 8 f.records.length] = head := by
    rw [hnumber', hcells, hcount, hrecords, hdeclared, ← hkind, ← hversion]
    match head, hlen with
    | [_, _, _, _, _, _, _, _, _], _ => rfl
  rw [frameBytes, hheader, List.append_assoc, List.append_assoc, hbytes]

end Sys2Proof.Machine
end

section
/-!
SUPPORT. Proofs about every command at once: it has a next state and leaves the queue, what it makes active has been
validated (R165, R168, R170, R181), and the copies of the tables keep their sizes (Table 12.5).
-/
namespace Sys2Proof.Machine

/-! ### What the invariants of the tables read -/

/-- The items of the Service Handler and of the Parameter Store that the invariants of the tables read. -/
def State.tableTerms (s : State) : Tables × Tables × PendingSet × NodeState × Option Commissioning × Commissioning :=
  (s.svc.active, s.svc.shadow, s.svc.pendingSet, s.svc.node, s.svc.writing, s.nv.image)

theorem tableTerms_of_latched {s t : State} (hsvc : t.svc = { s.svc with latched := t.svc.latched })
    (hnv : t.nv = s.nv) : t.tableTerms = s.tableTerms := by
  unfold State.tableTerms
  rw [hsvc, hnv]

/-- Accepted tables in a part that is not LOADING, which is one that serves requests (R161). -/
def State.RunsAccepted (s : State) : Prop := s.svc.node ≠ .loading ∧ s.TablesAccepted

section
variable {s t : State} (hterms : t.tableTerms = s.tableTerms)
include hterms

theorem eq_of_tableTerms : t.svc.active = s.svc.active ∧ t.svc.shadow = s.svc.shadow
    ∧ t.svc.pendingSet = s.svc.pendingSet ∧ t.svc.node = s.svc.node ∧ t.svc.writing = s.svc.writing
    ∧ t.nv.image = s.nv.image := by
  simpa only [State.tableTerms, Prod.mk.injEq] using hterms

theorem State.TablesAccepted.of_terms (h : s.TablesAccepted) : t.TablesAccepted := by
  obtain ⟨hactive, hshadow, hpending, hnode, hwriting, himage⟩ := eq_of_tableTerms hterms
  unfold State.TablesAccepted
  rw [hactive, hshadow, hpending, hnode, hwriting, himage]
  exact h

theorem State.RunsAccepted.of_terms (h : s.RunsAccepted) : t.RunsAccepted := by
  obtain ⟨-, -, -, hnode, -, -⟩ := eq_of_tableTerms hterms
  exact ⟨hnode ▸ h.1, h.2.of_terms hterms⟩

theorem State.TablesSized.of_terms (h : s.TablesSized) : t.TablesSized := by
  obtain ⟨hactive, hshadow, -, -, hwriting, himage⟩ := eq_of_tableTerms hterms
  unfold State.TablesSized
  rw [hactive, hshadow, hwriting, himage]
  exact h

end

/-! ### The checks read one table each, the pending set names tables -/

/-- COMMIT judges a recipe table by its own words (R168). -/
theorem validate_congr {t u : Tables} {tb : TableId} (h : t.words tb = u.words tb) :
    t.recipe.validate tb = u.recipe.validate tb := by
  cases tb with
  | zoneCurves => exact congrArg checkZoneCurves h
  | exhaustCurve => exact congrArg checkExhaustCurve h
  | chillCurves => exact congrArg checkChillCurves h
  | doseWindows => exact congrArg checkDoseWindows h
  | _ => rfl

theorem comm_setWords (t : Tables) {tb : TableId} (ws : List Word) (h : tb.cls ≠ .commissioning) :
    (t.setWords tb ws).comm = t.comm := by
  cases tb with
  | node | cellMap | geometry | limits | inputLines | zoneTuning | chillTuning => exact absurd rfl h
  | _ => rfl

/-- The commissioning tables are pending together (R165, R170). -/
theorem has_commissioning (p : PendingSet) {tb : TableId} (h : tb.cls = .commissioning) : p.has tb = p.comm := by
  cases tb with
  | node | cellMap | geometry | limits | inputLines | zoneTuning | chillTuning => rfl
  | _ => cases h

/-- The shadow of a table that may be changed is not pending (R167). -/
theorem has_of_shadowBarred {s : State} {tb : TableId} (h : s.shadowBarred tb = none) :
    s.svc.pendingSet.has tb = false := by
  cases tb with
  | report | status | track | counters | identity => rfl
  | zoneCurves | exhaustCurve | chillCurves | doseWindows =>
    simpa [State.shadowBarred, TableId.cls] using h
  | _ =>
    simp only [State.shadowBarred, TableId.cls] at h
    split_ifs at h with hnode hpending
    exact eq_false_of_ne_true hpending

theorem has_of_join {p : PendingSet} {tb other : TableId} (h : (p.join tb).has other = true) :
    other = tb ∨ p.has other = true := by
  cases tb with
  | zoneCurves | exhaustCurve | chillCurves | doseWindows =>
    rw [has_join p rfl, Bool.or_eq_true, decide_eq_true_eq] at h
    exact h
  | _ => exact .inr h

theorem join_comm (p : PendingSet) (tb : TableId) : (p.join tb).comm = p.comm := by cases tb <;> rfl

theorem not_has_empty (tb : TableId) : ¬ PendingSet.empty.has tb = true := by cases tb <;> exact Bool.false_ne_true

/-! ### Requests (R161 to R177) -/

section
variable {s : State} {r : Request} (h : s.RunsAccepted)
include h

theorem State.RunsAccepted.checked {k : RequestKind} {f : State × Reply} (hf : f.1.RunsAccepted) :
    (s.checked k r f).1.RunsAccepted := by
  unfold State.checked
  split
  exacts [h, hf]

theorem State.RunsAccepted.onTable {f : TableId → State × Reply} (hf : ∀ tb, (f tb).1.RunsAccepted) :
    (onTable r s f).1.RunsAccepted := by
  unfold Machine.onTable
  split
  exacts [h, hf _]

/-- A table that is not pending may have any words in its shadow. -/
theorem State.RunsAccepted.setShadow {tb : TableId} (hfree : s.svc.pendingSet.has tb = false) (ws : List Word) :
    (s.setShadow (s.svc.shadow.setWords tb ws)).RunsAccepted := by
  obtain ⟨hrun, hactive, hrecipe, himage, hwriting, hcomm, hpending⟩ := h
  refine ⟨hrun, hactive, hrecipe, himage, hwriting, fun hset => ?_, fun other hother => ?_⟩
  · have hclass : tb.cls ≠ .commissioning := fun hclass => by
      rw [has_commissioning _ hclass] at hfree
      exact absurd hset (ne_true_of_eq_false hfree)
    refine ⟨(hcomm hset).1, ?_⟩
    rw [State.setShadow_svc, comm_setWords _ _ hclass]
    exact (hcomm hset).2
  · have hne : other ≠ tb := by
      rintro rfl
      exact absurd hother (ne_true_of_eq_false hfree)
    exact (validate_congr (words_setWords_other _ _ _ hne)).trans (hpending other hother)

theorem State.RunsAccepted.serveRead : (serveRead r s).1.RunsAccepted :=
  h.checked (h.onTable fun tb => by split <;> exact h)

theorem State.RunsAccepted.serveWrite : (serveWrite r s).1.RunsAccepted := by
  refine h.checked (h.onTable fun tb => ?_)
  split
  · exact h
  · next hbarred =>
    split
    exacts [h.of_terms rfl, h.setShadow (has_of_shadowBarred hbarred) _]

theorem State.RunsAccepted.serveDiscard : (serveDiscard r s).1.RunsAccepted := by
  refine h.checked (h.onTable fun tb => ?_)
  split
  · exact h
  · next hbarred => exact h.setShadow (has_of_shadowBarred hbarred) _

/-- What joins the pending set has passed its checks. -/
theorem State.RunsAccepted.serveCommit : (serveCommit r s).1.RunsAccepted := by
  refine h.checked (h.onTable fun tb => ?_)
  split
  · exact h
  · split
    · exact h
    · next hpasses =>
      obtain ⟨hrun, hactive, hrecipe, himage, hwriting, hcomm, hpending⟩ := h
      refine ⟨hrun, hactive, hrecipe, himage, hwriting, fun hset => hcomm ?_, fun other hother => ?_⟩
      · rwa [State.setPending_svc, join_comm] at hset
      · rcases has_of_join hother with rfl | hbefore
        exacts [hpasses, hpending other hbefore]

/-- With the commissioning tables pending the node is CONFIG already, and ENTER_CONFIG is refused (R169). -/
theorem State.RunsAccepted.serveEnterConfig : (serveEnterConfig r s).1.RunsAccepted := by
  refine h.checked ?_
  split_ifs with hbusy hconfig hdryer
  · exact h
  · exact h
  · exact h
  · obtain ⟨-, hactive, hrecipe, himage, hwriting, hcomm, hpending⟩ := h
    exact ⟨nofun, hactive, hrecipe, himage, hwriting, fun hset => absurd ⟨(hcomm hset).1, hset⟩ hconfig, hpending⟩

/-- The commissioning tables join the pending set in CONFIG, once they have passed every check (R170). -/
theorem State.RunsAccepted.serveLeaveConfig : (serveLeaveConfig r s).1.RunsAccepted := by
  refine h.checked ?_
  split_ifs with hoperate hbusy hcommissioned
  · exact h
  · exact h
  · exact h
  · split
    · exact h
    · next hpasses =>
      obtain ⟨hrun, hactive, hrecipe, himage, hwriting, -, hpending⟩ := h
      have hconfig : s.svc.node = .config := by
        cases hnode : s.svc.node with
        | loading => exact absurd hnode hrun
        | config => rfl
        | operate => exact absurd hnode hoperate
      refine ⟨hrun, hactive, hrecipe, himage, hwriting, fun _ => ⟨hconfig, hpasses⟩, fun other hother => ?_⟩
      cases other with
      | zoneCurves | exhaustCurve | chillCurves | doseWindows => exact hpending _ hother
      | _ => rfl

/-- The image of a STORE is the active commissioning tables (R172). -/
theorem State.RunsAccepted.serveStore : (serveStore r s).1.RunsAccepted := by
  refine h.checked ?_
  split_ifs
  · exact h
  · exact h
  · obtain ⟨hrun, hactive, hrecipe, himage, -, hrest⟩ := h
    refine ⟨hrun, hactive, hrecipe, himage, fun c hc => ?_, hrest⟩
    obtain rfl := Option.some.inj hc
    exact hactive

theorem State.RunsAccepted.serveTripReset : (serveTripReset r s).1.RunsAccepted := by
  refine h.checked ?_
  split_ifs
  exacts [h, h, h, h.of_terms rfl]

theorem State.RunsAccepted.serveTestTrip : (serveTestTrip r s).1.RunsAccepted := by
  refine h.checked ?_
  split_ifs
  exacts [h, h.of_terms (tableTerms_of_latched (by simp) (by simp))]

theorem State.RunsAccepted.serveLineReset : (serveLineReset r s).1.RunsAccepted := by
  refine h.checked ?_
  split_ifs
  exacts [h, h.of_terms rfl, h]

theorem State.RunsAccepted.serve (k : RequestKind) : (serve k r s).1.RunsAccepted := by
  cases k with
  | read => exact h.serveRead
  | write => exact h.serveWrite
  | commit => exact h.serveCommit
  | discard => exact h.serveDiscard
  | enterConfig => exact h.serveEnterConfig
  | leaveConfig => exact h.serveLeaveConfig
  | store => exact h.serveStore
  | clearLatched => exact h.checked (h.of_terms rfl)
  | clearCauses => exact h.checked (h.of_terms rfl)
  | clearCounters => exact h.checked (h.of_terms rfl)
  | tripReset => exact h.serveTripReset
  | testTrip => exact h.serveTestTrip
  | lineReset => exact h.serveLineReset

end

/-! ### The capture (R7, R165) -/

/-- A capture makes active the shadow of what is pending, table by table. -/
theorem activated_words (h : Handler) (tb : TableId) :
    h.activated.words tb = if h.pendingSet.has tb then h.shadow.words tb else h.active.words tb := by
  cases tb with
  | report | status | track | counters | identity => rfl
  | zoneCurves | exhaustCurve | chillCurves | doseWindows => rfl
  | _ => cases hset : h.pendingSet.comm <;> simp [Handler.activated, Tables.words, PendingSet.has, hset]

section
variable {s : State} (late : Bool) (number : BitVec 32) (cells : List Cell) (time : Nat)

theorem capture_nv : (s.capture late number cells time).nv = s.nv :=
  capture_changesOnly s late number cells time .nv (by decide)

/-- What a capture makes active has been validated. -/
theorem State.RunsAccepted.capture (h : s.RunsAccepted) : (s.capture late number cells time).RunsAccepted := by
  obtain ⟨hrun, hactive, hrecipe, himage, hwriting, hcomm, hpending⟩ := h
  unfold State.RunsAccepted State.TablesAccepted
  rw [capture_nv, capture_svc]
  refine ⟨?node, ?comm, fun tb => ?recipe, himage, hwriting, nofun, fun tb htb => absurd htb (not_has_empty tb)⟩
  case node =>
    change (if s.svc.pendingSet.comm then NodeState.operate else s.svc.node) ≠ .loading
    split
    exacts [nofun, hrun]
  case comm =>
    change (if s.svc.pendingSet.comm then s.svc.shadow.comm else s.svc.active.comm).Accepted
    split
    exacts [.inr (hcomm ‹_›).2, hactive]
  case recipe =>
    change s.svc.activated.recipe.validate tb = none
    by_cases htb : s.svc.pendingSet.has tb = true
    · exact (validate_congr ((activated_words s.svc tb).trans (if_pos htb))).trans (hpending tb htb)
    · exact (validate_congr ((activated_words s.svc tb).trans (if_neg htb))).trans (hrecipe tb)

theorem State.TablesSized.capture (h : s.TablesSized) : (s.capture late number cells time).TablesSized := by
  obtain ⟨hactive, hshadow, hrest⟩ := h
  have hactivated : s.svc.activated.sized = true := (sized_iff _).2 fun tb hcopies => by
    rw [activated_words]
    split
    exacts [words_length hshadow hcopies, words_length hactive hcopies]
  unfold State.TablesSized
  rw [capture_nv, capture_svc]
  exact ⟨hactivated, hshadow, hrest⟩

end

/-! ### What a command makes of the queue and of the tables -/

/-- From `s` to `t` the queue stands, and each invariant of the tables that holds still holds. -/
structure TableMove (s t : State) : Prop where
  pending : t.pending = s.pending
  accepted : s.TablesAccepted → t.TablesAccepted
  sized : s.TablesSized → t.TablesSized

/-- The same, of a part that is not LOADING and stays so. -/
structure RunsMove (s t : State) : Prop where
  pending : t.pending = s.pending
  accepted : s.RunsAccepted → t.RunsAccepted
  sized : s.TablesSized → t.TablesSized

section
variable {s t u : State}

theorem TableMove.kept (hpending : t.pending = s.pending) (hterms : t.tableTerms = s.tableTerms) : TableMove s t :=
  ⟨hpending, .of_terms hterms, .of_terms hterms⟩

theorem TableMove.refl : TableMove s s := .kept rfl rfl

theorem TableMove.trans (hst : TableMove s t) (htu : TableMove t u) : TableMove s u :=
  ⟨htu.pending.trans hst.pending, htu.accepted ∘ hst.accepted, htu.sized ∘ hst.sized⟩

theorem RunsMove.kept (hpending : t.pending = s.pending) (hterms : t.tableTerms = s.tableTerms) : RunsMove s t :=
  ⟨hpending, .of_terms hterms, .of_terms hterms⟩

theorem RunsMove.trans (hst : RunsMove s t) (htu : RunsMove t u) : RunsMove s u :=
  ⟨htu.pending.trans hst.pending, htu.accepted ∘ hst.accepted, htu.sized ∘ hst.sized⟩

theorem RunsMove.tableMove (h : RunsMove s t) (hrun : s.svc.node ≠ .loading) : TableMove s t :=
  ⟨h.pending, fun haccepted => (h.accepted ⟨hrun, haccepted⟩).2, h.sized⟩

/-- What a command does only under a condition. -/
theorem TableMove.ite {p : Prop} [Decidable p] (h : p → TableMove s t) : TableMove s (if p then t else s) := by
  split
  exacts [h ‹p›, .refl]

/-- What a stage does where it is the next one of the computation in flight. -/
theorem TableMove.atStage {stage : Stage} {f : Computation → State} (h : ∀ c, TableMove s (f c)) :
    TableMove s (s.atStage stage f) := by
  rcases s.atStage_spec stage f with heq | ⟨c, -, -, heq⟩ <;> rw [heq]
  exacts [.refl, h c]

/-- A command that at most latches flags in the Service Handler. -/
theorem TableMove.latched {changed : List Block} (hframe : ChangesOnly s t changed)
    (hsvc : t.svc = { s.svc with latched := t.svc.latched }) (hpending : .pending ∉ changed := by decide)
    (hnv : .nv ∉ changed := by decide) : TableMove s t :=
  .kept (hframe .pending hpending) (tableTerms_of_latched hsvc (hframe .nv hnv))

theorem tableMove_advanceTo (s : State) (time : Nat) : TableMove s (s.advanceTo time) :=
  .latched (advanceTo_changesOnly s time) (by simp)

/-- The same, once local time has moved on. -/
theorem TableMove.timed {time : Nat} {changed : List Block} (hframe : ChangesOnly (s.advanceTo time) t changed)
    (hsvc : t.svc = { s.svc with latched := t.svc.latched }) (hpending : .pending ∉ changed := by decide)
    (hnv : .nv ∉ changed := by decide) : TableMove s t :=
  (tableMove_advanceTo s time).trans (.latched hframe (by rwa [State.advanceTo_svc]) hpending hnv)

/-- A reset leaves the Parameter Store, and both copies hold the built-in defaults and empty recipes (R173, R178). -/
theorem TableMove.reset {causes : BitVec 3} (hpending : t.pending = s.pending) (hnv : t.nv = s.nv)
    (hsvc : t.svc = .reset causes) : TableMove s t where
  pending := hpending
  accepted := fun ⟨_, _, himage, _⟩ => by
    unfold State.TablesAccepted
    rw [hsvc, hnv]
    exact ⟨.inl rfl, recipe_blank_accepted, himage, nofun, nofun, fun tb htb => absurd htb (not_has_empty tb)⟩
  sized := fun ⟨_, _, himage, _⟩ => by
    unfold State.TablesSized
    rw [hsvc, hnv]
    exact ⟨sized_defaults_blank, sized_defaults_blank, himage, nofun⟩

end

/-! #### Load and the Parameter Store -/

section
variable (s : State)

theorem takeLoadEnd_nv : (takeLoadEnd s).nv = s.nv := takeLoadEnd_changesOnly s .nv (by decide)

/-- What load gives is the image of the Parameter Store, or the built-in defaults (R173). -/
theorem loaded_cases (nv : ParamStore) : nv.loaded = nv.image ∨ nv.loaded = .defaults := by
  unfold ParamStore.loaded
  split
  exacts [.inl rfl, .inr rfl]

/-- While LOADING no commissioning table is pending. -/
theorem tableMove_takeLoadEnd (hload : s.svc.node = .loading) : TableMove s (takeLoadEnd s) where
  pending := takeLoadEnd_changesOnly s .pending (by decide)
  accepted := fun ⟨_, hrecipe, himage, hwriting, hcomm, hpending⟩ => by
    have hloaded : s.nv.loaded.Accepted := by
      rcases loaded_cases s.nv with heq | heq <;> rw [heq]
      exacts [himage, .inl rfl]
    unfold State.TablesAccepted
    rw [takeLoadEnd_nv, takeLoadEnd_svc]
    refine ⟨hloaded, hrecipe, himage, hwriting, fun hset => ?_, hpending⟩
    have hconfig := (hcomm hset).1
    rw [hload] at hconfig
    cases hconfig
  sized := fun ⟨hactive, hshadow, himage, hwriting⟩ => by
    have hloaded : (⟨s.nv.loaded, .blank⟩ : Tables).sized = true := by
      rcases loaded_cases s.nv with heq | heq <;> rw [heq]
      exacts [himage, sized_defaults_blank]
    unfold State.TablesSized
    rw [takeLoadEnd_nv, takeLoadEnd_svc]
    exact ⟨sized_mk hloaded hactive, sized_mk hloaded hshadow, himage, hwriting⟩

/-- The image that a STORE took becomes that of the Parameter Store, or is dropped (R172). -/
theorem tableMove_endStore {image : Commissioning} (hwriting : s.svc.writing = some image) (written : Bool) :
    TableMove s (s.endStore image written) := by
  cases written with
  | true => exact ⟨rfl,
      fun ⟨hactive, hrecipe, _, hwritten, hrest⟩ => ⟨hactive, hrecipe, hwritten image hwriting, nofun, hrest⟩,
      fun ⟨hactive, hshadow, _, hwritten⟩ => ⟨hactive, hshadow, hwritten image hwriting, nofun⟩⟩
  | false => exact ⟨rfl,
      fun ⟨hactive, hrecipe, himage, _, hrest⟩ => ⟨hactive, hrecipe, himage, nofun, hrest⟩,
      fun ⟨hactive, hshadow, himage, _⟩ => ⟨hactive, hshadow, himage, nofun⟩⟩

/-! #### Requests and frames -/

theorem runsMove_serve (k : RequestKind) (r : Request) : RunsMove s (serve k r s).1 :=
  ⟨(serviceKeeps_serve k r s).1 .pending (by decide), fun h => h.serve k, fun h => (keepsSizes_serve h k).2⟩

theorem runsMove_serveRecord (r : Record) : RunsMove s (serveRecord r s).1 := by
  unfold serveRecord
  split
  exacts [.kept rfl rfl, runsMove_serve s _ _]

theorem runsMove_serveLane (records : List Record) : RunsMove s (serveLane records s).1 := by
  induction records generalizing s with
  | nil => exact .kept rfl rfl
  | cons r rest ih =>
    simp only [serveLane]
    split
    · split
      exacts [runsMove_serveRecord s r, (runsMove_serveRecord s r).trans (ih _)]
    · exact ih s

/-- A request as a command of its own: none is served while LOADING (R161). -/
theorem tableMove_request (k : RequestKind) (r : Request) : TableMove s (s.request (serve k r s)) := by
  by_cases hload : s.svc.node = .loading
  · rw [State.request, if_pos hload]
    exact .refl
  · rw [request_running hload]
    exact ((runsMove_serve s k r).tableMove hload).trans (.kept rfl rfl)

section
variable (number : BitVec 32) (cells : List Cell) (time : Nat)

theorem runsMove_capture (late : Bool) : RunsMove s (s.capture late number cells time) :=
  ⟨capture_changesOnly s late number cells time .pending (by decide), fun h => h.capture _ _ _ _,
    fun h => h.capture _ _ _ _⟩

theorem runsMove_latchIf (b : Bool) (f : Flag) : RunsMove s (s.latchIf b f) :=
  .kept (s.latchIf_pending b f) (tableTerms_of_latched (latchIf_svc b f s) (State.latchIf_nv b f s))

theorem runsMove_arrival : RunsMove s (s.arrival number cells time) := by
  cases hv : s.sup.verdict s.svc.active.comm s.engine.flight.isSome number time with
  | anchoring => rw [State.arrival, hv]; exact (runsMove_latchIf s _ _).trans (runsMove_capture _ ..)
  | capture => rw [State.arrival, hv]; exact (runsMove_latchIf s _ _).trans (runsMove_capture _ ..)
  | early => rw [arrival_early hv]; exact .kept rfl rfl
  | duplicate => rw [arrival_duplicate hv]; exact .kept rfl rfl
  | overrun => rw [arrival_overrun hv]; exact .kept rfl rfl

theorem runsMove_forward (f : EthFrame) : RunsMove s (s.forward f) :=
  .kept (s.forward_pending f) (by simp [State.tableTerms])

theorem runsMove_process (f : LineFrame) : RunsMove s (s.process f time) := by
  cases hkind : f.kind with
  | cycle =>
    rw [process_cycle s f time hkind]
    exact ((runsMove_arrival s _ _ _).trans (runsMove_serveLane _ _)).trans (runsMove_forward _ _)
  | service =>
    rw [process_service s f time hkind]
    exact (runsMove_serveLane _ _).trans (runsMove_forward _ _)

theorem runsMove_receive (frame : EthFrame) : RunsMove s (s.receive frame time) := by
  unfold State.receive
  split_ifs
  · exact RunsMove.trans (t := s.countFcs) (.kept rfl rfl) (runsMove_forward _ _)
  · exact runsMove_forward _ _
  · split
    · exact RunsMove.trans (t := s.countMalformed) (.kept rfl rfl) (runsMove_forward _ _)
    · exact runsMove_process s time _

/-- A frame that arrives: what it captures and serves, it does in a part that is not LOADING (R5). -/
theorem tableMove_frameArrival (port : Port) (frame : EthFrame) :
    ∃ t, exec (.frameArrival port time frame) s = .next t ∧ TableMove s t := by
  refine ⟨_, rfl, ?_⟩
  cases port with
  | ringOut => exact tableMove_advanceTo s time
  | ringIn =>
    dsimp only
    split_ifs with hdown hload
    · exact .refl
    · exact .latched (forward_changesOnly s frame) (by simp)
    · exact (tableMove_advanceTo s time).trans
        ((runsMove_receive _ time frame).tableMove (by rwa [State.advanceTo_svc]))

end

/-! #### Stages, expiries and break lines -/

section
variable (c : Computation) (time : Nat)

theorem tableMove_speedStage : TableMove s (takeSpeedStage c s) :=
  .latched (takeSpeedStage_changesOnly c s) (latchIf_svc ..)

theorem tableMove_dryerStep (permit : Bool) : TableMove s (takeDryerStep c permit (s.advanceTo time)) :=
  .timed (dryerStepped_changesOnly s c time permit) (dryerStepped_svc s c time permit)

theorem tableMove_dryerStepOf (row : Transition) (permit : Bool) : TableMove s (dryerStepOf row permit time s) :=
  .atStage fun c => .ite fun _ => tableMove_dryerStep s c time permit

theorem tableMove_zoneStage : TableMove s (takeZoneStage c (s.advanceTo time)) :=
  .timed (zoneStaged_changesOnly s c time) (zoneStaged_svc s c time)

theorem tableMove_exhaustStage : TableMove s (takeExhaustStage c (s.advanceTo time)) :=
  .timed (exhaustStaged_changesOnly s c time) (exhaustStaged_svc s c time)

theorem tableMove_chillStage : TableMove s (takeChillStage c s) :=
  .latched (chillStaged_changesOnly s c) (chillStaged_svc s c)

end

theorem takeLevel_svc (k : Fin 4) : (s.takeLevel k).svc = { s.svc with latched := (s.takeLevel k).svc.latched } := by
  by_cases huntaken : s.untaken k
  · exact (linesActed_takeLevel s k huntaken).svc
  · rw [takeLevel_taken huntaken]

theorem tableMove_takeLevel (k : Fin 4) : TableMove s (s.takeLevel k) :=
  .latched (takeLevel_changesOnly s k) (takeLevel_svc s k)

theorem tableMove_lineChanged (line : Fin 4) (high : Bool) (time : Nat) :
    TableMove s (s.lineChanged line high time) := by
  have hchanged : TableMove s ((s.advanceTo time).changeLevel line high) :=
    (tableMove_advanceTo s time).trans (.latched (changeLevel_changesOnly (s.advanceTo time) line high) rfl)
  unfold State.lineChanged
  dsimp only
  split_ifs
  exacts [.refl, .kept rfl rfl, hchanged.trans (tableMove_takeLevel _ line), hchanged]

end

/-! #### Every command -/

/-- The one case split over the commands: each has a next state, and what it makes of the queue and of the tables. -/
theorem exec_tableMove (i : Instr) (s : State) : ∃ t, exec i s = .next t ∧ TableMove s t := by
  cases i with
  | powerOn => exact ⟨_, rfl, .reset rfl rfl rfl⟩
  | localReset cut => exact ⟨_, rfl, .reset (by cases cut <;> rfl) (by cases cut <;> rfl) rfl⟩
  | localResetRelease =>
    refine ⟨_, rfl, ?_⟩
    split
    exacts [.refl, .kept rfl rfl]
  | lineResetTakesEffect => exact ⟨_, rfl, .ite fun _ => .reset rfl rfl rfl⟩
  | loadEnd => exact ⟨_, rfl, .ite fun hload => tableMove_takeLoadEnd s hload.1⟩
  | portLinkUp port => exact ⟨_, rfl, .latched (setLink_changesOnly s port true) rfl⟩
  | portLinkDown port cut =>
    have hcut := cutFrame_changesOnly s port cut
    have hsvc : _ = s.svc := hcut .svc (by decide)
    exact ⟨_, rfl, (TableMove.latched hcut (by rw [hsvc])).trans (.latched (setLink_changesOnly _ port false) rfl)⟩
  | frameArrival port time frame => exact tableMove_frameArrival s time port frame
  | warnExpiry time =>
    exact ⟨_, exec_warnExpiry time s, .ite fun _ => .timed (takeWarnExpiry_changesOnly _) (by simp [takeWarnExpiry])⟩
  | lossExpiry time =>
    exact ⟨_, exec_lossExpiry time s, .ite fun _ => .timed (takeLossExpiry_changesOnly _) (by simp [takeLossExpiry])⟩
  | purgeExpiry time =>
    exact ⟨_, exec_purgeExpiry time s, .ite fun _ => (tableMove_advanceTo s time).trans (.kept rfl rfl)⟩
  | speedStage => exact ⟨_, rfl, .atStage fun c => tableMove_speedStage s c⟩
  | speedHoldRunOut => exact ⟨_, rfl, .atStage fun c => .ite fun _ => tableMove_speedStage s c⟩
  | dryerStep time permit => exact ⟨_, rfl, .atStage fun c => tableMove_dryerStep s c time permit⟩
  | permitTimerReached time => exact ⟨_, rfl, tableMove_dryerStepOf s time ..⟩
  | settleTimerReached time => exact ⟨_, rfl, tableMove_dryerStepOf s time ..⟩
  | runConfirmReached time => exact ⟨_, rfl, tableMove_dryerStepOf s time ..⟩
  | holdDelayReached time => exact ⟨_, rfl, tableMove_dryerStepOf s time ..⟩
  | holdLimitReached time => exact ⟨_, rfl, tableMove_dryerStepOf s time ..⟩
  | zoneStage time => exact ⟨_, rfl, .atStage fun c => tableMove_zoneStage s c time⟩
  | zoneSensorHoldRunOut zone time =>
    exact ⟨_, rfl, .atStage fun c => .ite fun _ => tableMove_zoneStage s c time⟩
  | exhaustStage time => exact ⟨_, rfl, .atStage fun c => tableMove_exhaustStage s c time⟩
  | lelHoldRunOut time => exact ⟨_, rfl, .atStage fun c => .ite fun _ => tableMove_exhaustStage s c time⟩
  | trackStage => exact ⟨_, rfl, .atStage fun c => .kept rfl rfl⟩
  | chillStage => exact ⟨_, rfl, .atStage fun c => tableMove_chillStage s c⟩
  | chillSensorHoldRunOut => exact ⟨_, rfl, .atStage fun c => .ite fun _ => tableMove_chillStage s c⟩
  | publication => exact ⟨_, rfl, .atStage fun c => .kept rfl rfl⟩
  | breakLineLevelChange line high time => exact ⟨_, rfl, tableMove_lineChanged s line high time⟩
  | breakLineLevelTaken line time =>
    refine ⟨_, exec_breakLineLevelTaken line time s, ?_⟩
    split
    exacts [.refl, .ite fun _ => (tableMove_advanceTo s time).trans (tableMove_takeLevel _ line)]
  | storeCompletion written =>
    refine ⟨_, rfl, ?_⟩
    split
    · exact .refl
    · next image hwriting => exact tableMove_endStore s hwriting written
  | read r => exact ⟨_, rfl, tableMove_request s .read r⟩
  | write r => exact ⟨_, rfl, tableMove_request s .write r⟩
  | commit r => exact ⟨_, rfl, tableMove_request s .commit r⟩
  | discard r => exact ⟨_, rfl, tableMove_request s .discard r⟩
  | enterConfig r => exact ⟨_, rfl, tableMove_request s .enterConfig r⟩
  | leaveConfig r => exact ⟨_, rfl, tableMove_request s .leaveConfig r⟩
  | store r => exact ⟨_, rfl, tableMove_request s .store r⟩
  | clearLatched r => exact ⟨_, rfl, tableMove_request s .clearLatched r⟩
  | clearCauses r => exact ⟨_, rfl, tableMove_request s .clearCauses r⟩
  | clearCounters r => exact ⟨_, rfl, tableMove_request s .clearCounters r⟩
  | tripReset r => exact ⟨_, rfl, tableMove_request s .tripReset r⟩
  | testTrip r time =>
    exact ⟨_, rfl, (tableMove_advanceTo s time).trans (tableMove_request (s.advanceTo time) .testTrip r)⟩
  | lineReset r => exact ⟨_, rfl, tableMove_request s .lineReset r⟩

/-- Settles O56: a step idles, or moves the tables as the command at the front of the queue does. -/
theorem activeCopiesStayAccepted : Obligations.ActiveCopiesStayAccepted := by
  intro s t hstep
  rw [step] at hstep
  split at hstep
  · obtain rfl := Host.Outcome.next.inj hstep
    exact ⟨id, id⟩
  · next i rest _ =>
    obtain ⟨u, hexec, hmove⟩ := exec_tableMove i { s with pending := rest }
    obtain rfl := Host.Outcome.next.inj (hexec.symm.trans hstep)
    exact ⟨hmove.accepted, hmove.sized⟩

/-- Settles O2: the case split over the commands, read for the queue. -/
theorem everyCommandHasANextState : Obligations.EveryCommandHasANextState := fun c s =>
  have ⟨t, hexec, hmove⟩ := exec_tableMove c s
  ⟨t, hexec, hmove.pending⟩

/-- Settles O1: the queue's rest is the queue before the command was put at its front. -/
theorem stepTakesTheFrontCommand : Obligations.StepTakesTheFrontCommand := fun _ _ => rfl

end Sys2Proof.Machine
end
